-- ==== Sys2Proof/Word.lean ====
section
/-! DEFINITION. The word types of the WSDB: the 32-bit register and command word, and the byte. -/

namespace Sys2Proof

/-- A byte: a frame byte, a byte offset, a byte lane of a register. -/
abbrev Byte := BitVec 8

/-- A register of the register map and a command word (10_state R26, 30_encoding R80). -/
abbrev Word := BitVec 32

end Sys2Proof
end

