-- ==== Sys2Proof/Machine/Operands.lean ====
section
/-! DEFINITION. The fields of a command word (30_encoding R80, R81) and the bit-level helpers of the register rules. -/

namespace Sys2Proof.Machine

/-- `OPC = w[7:0]` (30_encoding R81). -/
def fieldOpc (w : Word) : Byte := w.extractLsb' 0 8

/-- `LINE = w[11:8]`, unsigned (30_encoding R81). -/
def fieldLine (w : Word) : Nat := (w.extractLsb' 8 4).toNat

/-- `ARG = w[27:16]`, unsigned, zero-extended wherever it is used (30_encoding R81). -/
def fieldArg (w : Word) : Nat := (w.extractLsb' 16 12).toNat

/-- A command word with the given OPC, LINE and ARG and 0 in every ignored bit (30_encoding R80, R82). -/
def commandWord (opc line arg : Nat) : Word := BitVec.ofNat 32 (opc + 2 ^ 8 * line + 2 ^ 16 * arg)

/-- `sat_N(v) = min(v, 2^N - 1)` (00_scope R8). -/
def satNat (n v : Nat) : Nat := min v (2 ^ n - 1)

/-- One bit of a word placed at position `k`. -/
def flagAt (b : Bool) (k : Nat) : Word := if b then BitVec.ofNat 32 (2 ^ k) else 0

/-- The number whose bit `n` is entry `n` of the list. -/
def packBits : List Bool → Nat
  | [] => 0
  | b :: bs => b.toNat + 2 * packBits bs

end Sys2Proof.Machine
end

