-- ==== Sys2Proof/Config.lean ====
section
/-! DEFINITION. What a build of the WSDB fixes (00_scope R7), and the free values: the unlisted levels of the input
pins, and `bus_rdata` in a write cycle. -/

namespace Sys2Proof

/-- The ADC full-scale divisor: 4095 or 4096, nothing else (00_scope R7). -/
inductive AdcFs where
  | fs4095
  | fs4096
  deriving DecidableEq, Repr

/-- The number ADC_FS stands for. -/
def AdcFs.value : AdcFs → Nat
  | .fs4095 => 4095
  | .fs4096 => 4096

/-- The build-time parameters (00_scope R7).  "A model takes each as an argument": a state carries them in its field
`build`, so every statement about every state is a statement about every build (log 1). -/
structure Build where
  /-- CLK_PER_TICK, clock cycles per tick. -/
  clkPerTick : Nat
  /-- TICKS_PER_MS, ticks per millisecond. -/
  ticksPerMs : Nat
  /-- NLINES, the number of PC lines. -/
  nlines : Nat
  /-- SYNC_STAGES, the synchroniser depth of every input. -/
  syncStages : Nat
  /-- ADC_FS. -/
  adcFs : AdcFs
  /-- VANE_R[0..15], the ROM resistances in ohms (42_vane R171). -/
  vaneR : Vector (BitVec 24) 16
  /-- VANE_LAT, cycles from the accept to the completion of a VANE_RESOLVE. -/
  vaneLat : Nat
  /-- CMEAN_LAT, cycles from the accept to the completion of a CMEAN_COMPUTE. -/
  cmeanLat : Nat
  /-- BASE, the byte address of the register block on the platform's bus (20_memory R69). -/
  base : Nat
  deriving DecidableEq, Repr

namespace Config

/-- DESIGN CHOICE, unsafe (log 2): the build of `State.reset`.  TICKS_PER_MS, NLINES, SYNC_STAGES and ADC_FS are the
spec's defaults (00_scope R7).  CLK_PER_TICK, VANE_LAT, CMEAN_LAT and VANE_R are OPEN: these are the values of the
reference conventions of 95_test_vectors part 0, VANE_R the informative table of 42_vane R173.  BASE is 0. -/
def referenceBuild : Build where
  clkPerTick := 1
  ticksPerMs := 1000
  nlines := 2
  syncStages := 2
  adcFs := .fs4096
  vaneR := #v[33000, 6570, 8200, 891, 1000, 688, 2200, 1410, 3900, 3140, 16000, 14120, 120000, 42120, 64900, 21880]
  vaneLat := 0
  cmeanLat := 0
  base := 0

/-- FREE VALUE (log 4): the level of the pin `ow_in` in a cycle that no listed input describes.  The environment drives
it "with any value in any cycle" (00_scope R13). -/
opaque freeOwIn : Nat → Bool

/-- FREE VALUE (log 4): the levels of the pins `pc_in[0..7]` in a cycle that no listed input describes. -/
opaque freePcIn : Nat → Byte

/-- FREE VALUE (log 5): the value on `bus_rdata` in a write cycle, which no rule states: it is "valid in the cycle of a
read" (10_state R22). -/
opaque freeRdata : Nat → Word

end Config

end Sys2Proof
end

