-- ==== Sys2Proof/Syntax.lean ====
section
/-! DEFINITION. The seven commands of the WSDB (30_encoding R85, one constructor per row of the opcode table). -/

namespace Sys2Proof

/-- A command the host issues by a write to CMD.  An operand is the unsigned number of its field, zero-extended
(30_encoding R81); `Instr.wellFormed` says which numbers the field can hold. -/
inductive Instr where
  /-- NOP (44_control R221). -/
  | nop
  /-- OW_READ: request and decode one frame (40_onewire R101). -/
  | owRead
  /-- VANE_RESOLVE with the ADC code `c` (42_vane R174). -/
  | vaneResolve (c : Nat)
  /-- CMEAN_CLEAR (43_circular_mean R193). -/
  | cmeanClear
  /-- CMEAN_ADD with the angle `a` in decidegrees (43_circular_mean R194). -/
  | cmeanAdd (a : Nat)
  /-- CMEAN_COMPUTE (43_circular_mean R196). -/
  | cmeanCompute
  /-- PC_TAKE of line `n` (41_pulse_counter R146). -/
  | pcTake (n : Nat)
  deriving DecidableEq, Repr

end Sys2Proof
end

