-- ==== Sys2Proof/WellFormed.lean ====
section
/-! DEFINITION. Which commands the assembler accepts (30_encoding R89), and which builds exist (00_scope R7). -/

namespace Sys2Proof

/-- The operand ranges of 30_encoding R89: "The assembler refuses an operand outside the range shown."  They are the
ranges of the fields ARG (12 bits) and LINE (4 bits) of 30_encoding R80. -/
def Instr.wellFormed : Instr → Bool
  | .nop => true
  | .owRead => true
  | .vaneResolve c => decide (c ≤ 4095)
  | .cmeanClear => true
  | .cmeanAdd a => decide (a ≤ 4095)
  | .cmeanCompute => true
  | .pcTake n => decide (n ≤ 15)

/-- The parameter ranges of 00_scope R7. -/
def Build.wellFormed (b : Build) : Bool :=
  decide (1 ≤ b.clkPerTick) && decide (b.clkPerTick ≤ 65536) &&
  (decide (1 ≤ b.ticksPerMs) && decide (b.ticksPerMs ≤ 65536)) &&
  (decide (1 ≤ b.nlines) && decide (b.nlines ≤ 8)) &&
  decide (b.syncStages ≤ 4) && decide (b.vaneLat ≤ 65536) && decide (b.cmeanLat ≤ 65536)

end Sys2Proof
end

