-- ==== Sys2Proof/Decode.lean ====
section
/-! DEFINITION. The decoder of a command word (30_encoding R85 to R87, 44_control R220), total on any word, and the
encoder: what the assembler emits for a command (30_encoding R89). -/

namespace Sys2Proof

open Sys2Proof.Machine

/-- What a word written to CMD stands for: "Every 32-bit word is exactly one of these seven commands or a reserved
word" (30_encoding R85). -/
inductive Decoded where
  /-- One of the seven commands. -/
  | command (i : Instr)
  /-- A reserved word, rejected by the name of its opcode (30_encoding R86). -/
  | reserved (opc : Byte)
  deriving DecidableEq, Repr

/-- The opcode of a command (30_encoding R85). -/
def opcodeOf : Instr → Nat
  | .nop => 0x00
  | .owRead => 0x01
  | .vaneResolve _ => 0x10
  | .cmeanClear => 0x20
  | .cmeanAdd _ => 0x21
  | .cmeanCompute => 0x22
  | .pcTake _ => 0x30

/-- The decoder: it "reads OPC alone to choose the command" (30_encoding R87), and LINE and ARG as operands.  Ignored
bits change nothing (30_encoding R82).  Whether LINE names a line is checked when the command runs (R86). -/
def decode (w : Word) : Decoded :=
  match (fieldOpc w).toNat with
  | 0x00 => .command .nop
  | 0x01 => .command .owRead
  | 0x10 => .command (.vaneResolve (fieldArg w))
  | 0x20 => .command .cmeanClear
  | 0x21 => .command (.cmeanAdd (fieldArg w))
  | 0x22 => .command .cmeanCompute
  | 0x30 => .command (.pcTake (fieldLine w))
  | _ => .reserved (fieldOpc w)

/-- The word the assembler emits for a command, 0 in every ignored bit (30_encoding R82, R89). -/
def encode (i : Instr) : Word :=
  match i with
  | .nop => commandWord (opcodeOf i) 0 0
  | .owRead => commandWord (opcodeOf i) 0 0
  | .vaneResolve c => commandWord (opcodeOf i) 0 c
  | .cmeanClear => commandWord (opcodeOf i) 0 0
  | .cmeanAdd a => commandWord (opcodeOf i) 0 a
  | .cmeanCompute => commandWord (opcodeOf i) 0 0
  | .pcTake n => commandWord (opcodeOf i) n 0

/-- The assembler of 30_encoding R89, which "refuses an operand outside the range shown" and "does not truncate". -/
def assemble (i : Instr) : Option Word := if i.wellFormed then some (encode i) else none

/-- The command the decoder reads from `nbits` bits of an opcode-table row, every higher bit 0. -/
def decodeTableWord (nbits w : Nat) : Option Instr :=
  match decode (BitVec.ofNat 32 (w % 2 ^ nbits)) with
  | .command i => some i
  | .reserved _ => none

end Sys2Proof
end

