-- ==== Sys2Proof/Machine/State.lean ====
section
/-! DEFINITION. The state of the WSDB (10_state R20 to R56), its inputs and outputs of one cycle, and its reset. -/

namespace Sys2Proof.Machine

/-- No fault: "The WSDB raises no synchronous exception and takes no trap" (60_exceptions R230), and "every state and
every input has exactly one successor state" (70_reset R266).  So this inductive has no constructor (log 6). -/
inductive Fault where
  deriving DecidableEq, Repr

/-- Why a step has no meaning.  No step of this model refuses. -/
inductive Refusal where
  /-- Raised by an arm of `exec` whose command has no meaning yet; safe: the run stops.  No arm does. -/
  | notModelled (mnemonic : String)
  deriving DecidableEq, Repr

/-- One transaction on the register port (20_memory R60). -/
inductive Transaction where
  | idle
  /-- `BusRead(off)`. -/
  | read (off : Byte)
  /-- `BusWrite(off, v)`. -/
  | write (off : Byte) (v : Word)
  deriving DecidableEq, Repr

/-- The input pins of one cycle (10_state R22). -/
structure Input where
  /-- `rst`: synchronous reset, active high. -/
  rst : Bool
  /-- `bus_req`: 0 idle, 1 read, 2 write, 3 treated as idle. -/
  busReq : BitVec 2
  /-- `bus_addr`. -/
  busAddr : Byte
  /-- `bus_wdata`. -/
  busWdata : Word
  /-- `ow_in`. -/
  owIn : Bool
  /-- `pc_in[n]` at bit n; the bits for n >= NLINES are no pins and are not read. -/
  pcIn : Byte
  deriving DecidableEq, Repr

/-- The output pins of one cycle (10_state R22, R23). -/
structure Outputs where
  /-- `ow_oe`: 1 = the WSDB drives the OneWire line. -/
  owOe : Bool
  /-- `ow_out`: the level it drives. -/
  owOut : Bool
  /-- `ow_busy`: the indicator of 40_onewire R114. -/
  owBusy : Bool
  /-- `irq`. -/
  irq : Bool
  /-- `bus_rdata`; in a write cycle, where the spec states no value, a free value (log 5). -/
  busRdata : Word
  deriving DecidableEq, Repr

/-- `ow_state` (10_state R40). -/
inductive OwPhase where
  | idle
  | low
  | high
  | sample
  deriving DecidableEq, Repr

/-- STATUS.OW_ERR (10_state R33). -/
inductive OwErr where
  | none
  | timeout
  | checksum
  | short
  deriving DecidableEq, Repr

/-- The four coarse directions of 42_vane R178. -/
inductive Sector where
  | north
  | east
  | south
  | west
  deriving DecidableEq, Repr

/-- The completion interrupts (60_exceptions R232). -/
inductive IrqSource where
  | owDone
  | vaneDone
  | cmeanDone
  deriving DecidableEq, Repr

/-- OW_CFG (10_state R35). -/
structure OwCfg where
  thresh : BitVec 8
  startLowMs : BitVec 8
  startHigh : BitVec 8
  maxWin : BitVec 7
  deriving DecidableEq, Repr

/-- The state of OW: its hidden state (10_state R40) and its results (R33, R36, R37, R39). -/
structure Ow where
  /-- `ow_state`. -/
  phase : OwPhase
  /-- `ow_tcnt`, "at least 25 bits" (log 8). -/
  tcnt : Nat
  /-- `ow_cnt`, the duration of the current window. -/
  cnt : BitVec 8
  /-- `ow_last`, the reference level. -/
  last : Bool
  /-- `ow_win` (OW_RAW1.NWIN). -/
  win : BitVec 7
  /-- `ow_nbits` (OW_RAW1.NBITS). -/
  nbits : BitVec 6
  /-- `acc[0..4]` (OW_RAW0, OW_RAW1[7:0]). -/
  acc : Vector Byte 5
  /-- `ow_timed_out`. -/
  timedOut : Bool
  /-- `thr_l`. -/
  thrL : BitVec 8
  /-- `maxwin_l`. -/
  maxwinL : BitVec 7
  /-- `high_l`. -/
  highL : BitVec 8
  /-- STATUS.OW_VALID. -/
  valid : Bool
  /-- STATUS.OW_ERR. -/
  err : OwErr
  /-- OW_RESULT.HUM. -/
  hum : BitVec 16
  /-- OW_RESULT.TEMP. -/
  temp : BitVec 16
  deriving DecidableEq, Repr

/-- The state of VANE (10_state R33, R42 to R44). -/
structure Vane where
  /-- `vane_cnt`. -/
  cnt : Nat
  /-- `vane_c_l`. -/
  cL : BitVec 12
  /-- `vane_r_l`. -/
  rL : BitVec 24
  /-- STATUS.VANE_VALID. -/
  valid : Bool
  /-- STATUS.VANE_DEGEN. -/
  degen : Bool
  /-- VANE_RES. -/
  res : Word
  /-- VANE_OUT. -/
  out : Word
  deriving DecidableEq, Repr

/-- The state of CMEAN (10_state R33, R50 to R52). -/
structure Cmean where
  /-- `cmean_cnt`. -/
  cnt : Nat
  /-- CMEAN_N. -/
  n : BitVec 16
  /-- CMEAN_SSUM, two's complement. -/
  ssum : Word
  /-- CMEAN_CSUM, two's complement. -/
  csum : Word
  /-- STATUS.CMEAN_VALID. -/
  valid : Bool
  /-- STATUS.CMEAN_FAULT. -/
  fault : Bool
  /-- CMEAN_OUT. -/
  out : Word
  deriving DecidableEq, Repr

/-- The sticky W1C bits of STATUS (10_state R33, R38). -/
structure Sticky where
  /-- STATUS bit 11. -/
  cmeanRange : Bool
  /-- STATUS bit 12. -/
  cmeanOvf : Bool
  /-- STATUS bit 16. -/
  badcmd : Bool
  /-- STATUS bit 17. -/
  collide : Bool
  deriving DecidableEq, Repr

/-- PC_CTRL (10_state R45). -/
structure PcCtrl where
  /-- EN[n] at bit n. -/
  en : BitVec 8
  /-- EDGE_FALL[n] at bit n. -/
  edgeFall : BitVec 8
  /-- DB_MS. -/
  dbMs : BitVec 8
  deriving DecidableEq, Repr

/-- The state of one PC line (10_state R29, R46 to R49; 41_pulse_counter R140). -/
structure Line where
  /-- The synchroniser of `pc_in[n]`, the flip-flop next to the pin first. -/
  sync : List Bool
  /-- `pc_prev[n]`. -/
  prev : Bool
  /-- `pc_tmr[n]` (log 8). -/
  tmr : Nat
  /-- PC_COUNT[n]. -/
  count : Word
  /-- PC_TAKEN[n]. -/
  taken : Word
  /-- PC_STATUS.OVF[n]. -/
  ovf : Bool
  /-- PC_STATUS.TOVF[n]. -/
  tovf : Bool
  deriving DecidableEq, Repr

/-- The state of the machine.  The first four fields are the model's own (INVENTORY.md); the others are the spec's. -/
structure State where
  /-- The build parameters (log 1).  No step changes them. -/
  build : Build
  /-- The inputs of the coming cycles, nearest first (log 3). -/
  inputs : List Input
  /-- How many cycles have passed (log 4). -/
  cycle : Nat
  /-- The output pins in the cycle just run (log 5). -/
  out : Outputs
  /-- `presc` (10_state R24). -/
  presc : Nat
  /-- The synchroniser of `ow_in`, the flip-flop next to the pin first (10_state R29). -/
  owSync : List Bool
  /-- IRQ_EN (10_state R34). -/
  irqEn : BitVec 3
  /-- IRQ_STATUS (10_state R34). -/
  irqStatus : BitVec 3
  /-- The sticky bits of STATUS (10_state R33). -/
  sticky : Sticky
  /-- OW_CFG (10_state R35). -/
  owCfg : OwCfg
  /-- The OW unit. -/
  ow : Ow
  /-- VANE_RREF.RREF (10_state R41). -/
  vaneRref : BitVec 24
  /-- The VANE unit. -/
  vane : Vane
  /-- The CMEAN unit. -/
  cmean : Cmean
  /-- PC_CTRL (10_state R45). -/
  pcCtrl : PcCtrl
  /-- The PC lines, line n at position n, NLINES of them. -/
  lines : List Line
  deriving DecidableEq, Repr

/-- OW_CFG after reset, 0x5528122E: THRESH 46, START_LOW_MS 18, START_HIGH 40, MAX_WIN 85 (10_state R35, R56). -/
def OwCfg.reset : OwCfg := ⟨46, 18, 40, 85⟩

/-- OW after reset (10_state R56). -/
def Ow.reset : Ow where
  phase := .idle
  tcnt := 0
  cnt := 0
  last := true
  win := 0
  nbits := 0
  acc := #v[0, 0, 0, 0, 0]
  timedOut := false
  thrL := 0
  maxwinL := 0
  highL := 0
  valid := false
  err := .none
  hum := 0
  temp := 0

/-- VANE after reset (10_state R56). -/
def Vane.reset : Vane := ⟨0, 0, 0, false, false, 0, 0⟩

/-- CMEAN after reset (10_state R56). -/
def Cmean.reset : Cmean := ⟨0, 0, 0, 0, false, false, 0⟩

/-- The sticky bits after reset (10_state R56). -/
def Sticky.reset : Sticky := ⟨false, false, false, false⟩

/-- PC_CTRL after reset, 0x00320000 (10_state R45, R56). -/
def PcCtrl.reset : PcCtrl := ⟨0, 0, 50⟩

/-- A line after reset, with a synchroniser of `stages` flip-flops at 0 (10_state R29, R56). -/
def Line.reset (stages : Nat) : Line := ⟨List.replicate stages false, false, 0, 0, 0, false, false⟩

/-- The output pins while `rst` = 1: every output is 0 (10_state R23, 70_reset R261). -/
def Outputs.inReset : Outputs := ⟨false, false, false, false, 0⟩

/-- The reset state of a build, the table of 10_state R56, with nothing listed of the inputs to come. -/
def State.resetOf (b : Build) : State where
  build := b
  inputs := []
  cycle := 0
  out := Outputs.inReset
  presc := 0
  owSync := List.replicate b.syncStages true
  irqEn := 0
  irqStatus := 0
  sticky := Sticky.reset
  owCfg := OwCfg.reset
  ow := Ow.reset
  vaneRref := 0
  vane := Vane.reset
  cmean := Cmean.reset
  pcCtrl := PcCtrl.reset
  lines := List.replicate b.nlines (Line.reset b.syncStages)

/-- The machine right after reset (70_reset R260, R262), in the reference build (log 2). -/
def State.reset : State := State.resetOf Config.referenceBuild

/-- Line n of the machine; for a number that is no line, a line at reset, which nothing reads. -/
def State.line (s : State) (n : Nat) : Line := s.lines.getD n (Line.reset 0)

end Sys2Proof.Machine
end

