-- ==== Sys2Proof/Machine/Flags.lean ====
section
/-! DEFINITION. The status words a host reads and the W1C rule (10_state R33, R34, R38, R46; 44_control R224). -/

namespace Sys2Proof.Machine

/-- The code of STATUS.OW_ERR (10_state R33). -/
def OwErr.code : OwErr → Nat
  | .none => 0
  | .timeout => 1
  | .checksum => 2
  | .short => 3

/-- `OW_BUSY = (ow_state != IDLE)` (10_state R33, 44_control R223). -/
def owBusy (s : State) : Bool := decide (s.ow.phase ≠ .idle)

/-- `VANE_BUSY = (vane_cnt != 0)`. -/
def vaneBusy (s : State) : Bool := decide (s.vane.cnt ≠ 0)

/-- `CMEAN_BUSY = (cmean_cnt != 0)`. -/
def cmeanBusy (s : State) : Bool := decide (s.cmean.cnt ≠ 0)

/-- STATUS as a host reads it (44_control R224). -/
def statusWord (s : State) : Word :=
  flagAt (owBusy s) 0 ||| flagAt s.ow.valid 1 ||| BitVec.ofNat 32 (2 ^ 2 * s.ow.err.code) |||
  flagAt (vaneBusy s) 4 ||| flagAt s.vane.valid 5 ||| flagAt s.vane.degen 6 |||
  flagAt (cmeanBusy s) 8 ||| flagAt s.cmean.valid 9 ||| flagAt s.cmean.fault 10 |||
  flagAt s.sticky.cmeanRange 11 ||| flagAt s.sticky.cmeanOvf 12 ||| flagAt s.sticky.badcmd 16 |||
  flagAt s.sticky.collide 17

/-- PC_STATUS as a host reads it, over the lines n < NLINES (10_state R46, 44_control R224). -/
def pcStatusWord (s : State) : Word :=
  let ls := s.lines.take s.build.nlines
  BitVec.ofNat 32 (packBits (ls.map fun l => decide (l.tmr ≠ 0))) |||
  BitVec.ofNat 32 (2 ^ 8 * packBits (ls.map Line.ovf)) |||
  BitVec.ofNat 32 (2 ^ 16 * packBits (ls.map Line.tovf))

/-- `irq = ((IRQ_STATUS & IRQ_EN & 0x7) != 0)` (10_state R23, 60_exceptions R233). -/
def irqLevel (s : State) : Bool := decide (s.irqStatus &&& s.irqEn ≠ 0)

/-- A W1C bit after the host's write and before the hardware's set of the cycle (10_state R38). -/
def clearIf (bit written : Bool) : Bool := bit && !written

/-- The host's clear of the sticky bits of STATUS: W1C of `v & 0x00031800` (44_control R225). -/
def clearSticky (v : Word) (k : Sticky) : Sticky where
  cmeanRange := clearIf k.cmeanRange (v.getLsbD 11)
  cmeanOvf := clearIf k.cmeanOvf (v.getLsbD 12)
  badcmd := clearIf k.badcmd (v.getLsbD 16)
  collide := clearIf k.collide (v.getLsbD 17)

end Sys2Proof.Machine
end

