-- ==== Sys2Proof/Machine/Ops.lean ====
section
/-! DEFINITION. The operations the units share: the timebase, the synchronisers, the sticky bits, the completion
interrupt and the sector of an angle.  The WSDB takes no exception and returns from none (60_exceptions R230): a command's
error is a sticky bit (`setBadcmd` and its fellows) and a completion is an IRQ_STATUS bit (`irqWith`). -/

namespace Sys2Proof.Machine

/-! ### Timebase (10_state R24) -/

/-- `tick = (Reg(presc) == CLK_PER_TICK - 1)`. -/
def State.tick (s : State) : Bool := decide (s.presc = s.build.clkPerTick - 1)

/-- `presc <- tick ? 0 : Reg(presc) + 1`. -/
def nextPresc (s : State) : Nat := if s.tick then 0 else s.presc + 1

/-! ### Input synchronisers (10_state R29) -/

/-- The synchronised value of a pin in a cycle: the output of the last flip-flop, or the pin itself when there is none. -/
def syncValue (pin : Bool) (flops : List Bool) : Bool := flops.getLastD pin

/-- The flip-flops after the cycle: the pin enters, the last value leaves. -/
def syncShift (pin : Bool) (flops : List Bool) : List Bool := (pin :: flops).dropLast

/-! ### Sticky bits: `setSticky` (10_state R38) and command outcomes (60_exceptions R235) -/

/-- `setSticky(STATUS.BADCMD)` (44_control R222). -/
def setBadcmd (s : State) : State := { s with sticky := { s.sticky with badcmd := true } }

/-- `setSticky(STATUS.COLLIDE)`: the one effect of a command to a busy unit (44_control R223). -/
def setCollide (s : State) : State := { s with sticky := { s.sticky with collide := true } }

/-- `setSticky(STATUS.CMEAN_RANGE)` (43_circular_mean R194). -/
def setCmeanRange (s : State) : State := { s with sticky := { s.sticky with cmeanRange := true } }

/-- `setSticky(STATUS.CMEAN_OVF)` (43_circular_mean R194). -/
def setCmeanOvf (s : State) : State := { s with sticky := { s.sticky with cmeanOvf := true } }

/-! ### Completion interrupts (60_exceptions R232) -/

/-- The IRQ_STATUS bit of a source. -/
def irqMask : IrqSource → BitVec 3
  | .owDone => 1
  | .vaneDone => 2
  | .cmeanDone => 4

/-- `raise_irq(src)` when `done`: it sets the source's IRQ_STATUS bit, enabled or not (10_state R34). -/
def irqWith (done : Bool) (src : IrqSource) (v : BitVec 3) : BitVec 3 := if done then v ||| irqMask src else v

/-! ### Sectors (42_vane R178) -/

/-- `sector(a)` of an angle in decidegrees, 0 <= a <= 3599. -/
def sector (a : Nat) : Sector :=
  if 3150 ≤ a ∨ a < 450 then .north
  else if a < 1350 then .east
  else if a < 2250 then .south
  else .west

/-- The 2-bit code of a sector: 0 north, 1 east, 2 south, 3 west. -/
def Sector.code : Sector → Nat
  | .north => 0
  | .east => 1
  | .south => 2
  | .west => 3

end Sys2Proof.Machine
end

