-- ==== Sys2Proof/Machine/CircularMean.lean ====
section
/-! DEFINITION. CMEAN, the circular averaging register: its three commands and its countdown (43_circular_mean R190 to
R200).  The rounded direction is computed exactly, in integers. -/

namespace Sys2Proof.Machine

/-! ### The rounded direction of a vector (43_circular_mean R197, R198)

`theta` is the angle of the vector (C, S) in decidegrees, in [0, 3600).  It is 3600 times the fraction of a full turn the
vector makes, so it is the number of full turns, with its fraction, that the 3600th power of C + i*S makes.  The power is
computed exactly by squaring and multiplying, and the full turns are counted on the way: nothing is approximated
(log 7). -/

/-- A multiple of the angle of a vector: `turns` full turns and the angle of (re, im), in [0, one turn). -/
structure Turning where
  turns : Nat
  re : Int
  im : Int
  deriving DecidableEq, Repr

/-- Whether the angle of (re, im), taken in [0, one turn), is less than half a turn. -/
def firstHalf (re im : Int) : Bool := decide (0 < im) || (decide (im = 0) && decide (0 < re))

/-- Whether the angle of (x, y) is less than that of (u, v), both taken in [0, one turn). -/
def angleBefore (x y u v : Int) : Bool :=
  if firstHalf x y = firstHalf u v then decide (0 < x * v - y * u) else firstHalf x y

/-- Twice the angle: the square of the vector, with one more full turn when the angle was half a turn or more. -/
def Turning.double (t : Turning) : Turning where
  turns := 2 * t.turns + (if firstHalf t.re t.im then 0 else 1)
  re := t.re * t.re - t.im * t.im
  im := 2 * t.re * t.im

/-- The angle plus that of (c, s): the product, with one more full turn when the angle of the product comes before that of
(c, s). -/
def Turning.plus (c s : Int) (t : Turning) : Turning :=
  let re := t.re * c - t.im * s
  let im := t.re * s + t.im * c
  ⟨t.turns + (if angleBefore re im c s then 1 else 0), re, im⟩

/-- One binary digit of the multiplier, most significant first. -/
def Turning.digit (c s : Int) (t : Turning) (d : Bool) : Turning := if d then t.double.plus c s else t.double

/-- 3600 times the angle of (c, s); the digits are those of 3600 = 111000010000 in base 2, after the first. -/
def turning3600 (c s : Int) : Turning :=
  [true, true, false, false, false, false, true, false, false, false, false].foldl (Turning.digit c s) ⟨0, c, s⟩

/-- `floor(theta + 1/2)`, 0 .. 3600: a half turn or more that remains is rounded up. -/
def roundedTurns (t : Turning) : Nat := t.turns + (if firstHalf t.re t.im then 0 else 1)

/-- `meanDeci(S, C)`, 0 .. 3599, for (S, C) other than (0, 0) (43_circular_mean R198). -/
def meanDeci (s c : Int) : Nat :=
  let r := roundedTurns (turning3600 c s)
  if r = 3600 then 0 else r

/-! ### Completion and commands -/

/-- CMEAN_OUT of the angle `r` (10_state R51, 43_circular_mean R199). -/
def cmeanOutWord (r : Nat) : Word := BitVec.ofNat 32 (2 ^ 16 * (sector r).code + r)

/-- `cmean_complete(S, C)` on the unit (43_circular_mean R199). -/
def cmeanComplete (s c : Int) (m : Cmean) : Cmean :=
  if s = 0 ∧ c = 0 then { m with fault := true, valid := false, out := 0 }
  else { m with out := cmeanOutWord (meanDeci s c), fault := false, valid := true }

/-- CMEAN_CLEAR (43_circular_mean R193). -/
def execCmeanClear (s : State) : Host.Outcome State Fault Refusal :=
  .next
    (if cmeanBusy s then setCollide s
     else { s with cmean := { s.cmean with n := 0, ssum := 0, csum := 0, valid := false, fault := false } })

/-- The accumulation of one valid angle (43_circular_mean R194, R195): "if an input is exactly 0, treat it as 3600", and
the ROM takes it mod 3600. -/
def cmeanAccumulate (a : Nat) (m : Cmean) : Cmean :=
  let a' := if a = 0 then 3600 else a
  { m with
    ssum := m.ssum + BitVec.ofInt 32 (sinq (a' % 3600))
    csum := m.csum + BitVec.ofInt 32 (cosq (a' % 3600))
    n := m.n + 1
    valid := false
    fault := false }

/-- CMEAN_ADD (43_circular_mean R194), its checks in the order of 60_exceptions R235. -/
def execCmeanAdd (a : Nat) (s : State) : Host.Outcome State Fault Refusal :=
  .next
    (if cmeanBusy s then setCollide s
     else if a > 3599 then setCmeanRange s
     else if s.cmean.n = 0xFFFF then setCmeanOvf s
     else { s with cmean := cmeanAccumulate a s.cmean })

/-- CMEAN_COMPUTE (43_circular_mean R196). -/
def execCmeanCompute (s : State) : Host.Outcome State Fault Refusal :=
  let m := { s.cmean with valid := false, fault := false }
  .next
    (if cmeanBusy s then setCollide s
     else if s.build.cmeanLat = 0 then
       { s with
         cmean := cmeanComplete s.cmean.ssum.toInt s.cmean.csum.toInt m
         irqStatus := irqWith true .cmeanDone s.irqStatus }
     else { s with cmean := { m with cnt := s.build.cmeanLat } })

/-- Whether the countdown completes in this cycle: `Reg(cmean_cnt) == 1` (43_circular_mean R196). -/
def cmeanCompletes (m : Cmean) : Bool := decide (m.cnt = 1)

/-- The countdown of a busy CMEAN in one cycle (43_circular_mean R196). -/
def cmeanUpdate (m : Cmean) : Cmean :=
  let m' := { m with cnt := m.cnt - 1 }
  if cmeanCompletes m then cmeanComplete m.ssum.toInt m.csum.toInt m' else m'

end Sys2Proof.Machine
end

