-- ==== Sys2Proof/Machine/Control.lean ====
section
/-! DEFINITION. NOP and the reserved words (44_control R221, R222). -/

namespace Sys2Proof.Machine

/-- NOP: no state changes (44_control R221). -/
def execNop (s : State) : Host.Outcome State Fault Refusal := .next s

/-- `reserved(w)`: a CMD write that names no command sets BADCMD and does nothing else (44_control R222).  It is neither a
fault nor a refusal of the model: the WSDB has no trap. -/
def reservedCommand (s : State) : Host.Outcome State Fault Refusal := .next (setBadcmd s)

end Sys2Proof.Machine
end

