-- ==== Sys2Proof/Machine/Onewire.lean ====
section
/-! DEFINITION. OW, the OneWire protocol decoder: OW_READ and the phase steps (40_onewire R101 to R117). -/

namespace Sys2Proof.Machine

/-- Frame byte k, 0 <= k <= 4, as a number. -/
def frameByte (acc : Vector Byte 5) (k : Nat) : Nat := (acc[k]?.getD 0).toNat

/-- The checksum test of a 40-bit frame (40_onewire R110). -/
def checksumOk (acc : Vector Byte 5) : Bool :=
  decide (frameByte acc 4 = (frameByte acc 0 + frameByte acc 1 + frameByte acc 2 + frameByte acc 3) % 256)

/-- Humidity in tenths of a percent (40_onewire R111). -/
def hum10 (acc : Vector Byte 5) : Nat :=
  let hr := 256 * frameByte acc 0 + frameByte acc 1
  if hr > 1000 then 10 * frameByte acc 0 else hr

/-- Temperature in tenths of a degree Celsius (40_onewire R112); the fallback uses all 8 bits of byte 2. -/
def temp10 (acc : Vector Byte 5) : Int :=
  let tm := 256 * (frameByte acc 2 % 128) + frameByte acc 3
  let mag := if tm > 1250 then 10 * frameByte acc 2 else tm
  if 128 ≤ frameByte acc 2 then -(mag : Int) else (mag : Int)

/-- What one OW step leaves: the unit, and whether `finish` ran, which raises OW_DONE (60_exceptions R232). -/
structure OwStep where
  ow : Ow
  done : Bool
  deriving DecidableEq, Repr

/-- `finish(acc, nbits, timed_out)` on the unit `o` (40_onewire R109). -/
def owFinish (acc : Vector Byte 5) (nbits : Nat) (timedOut : Bool) (o : Ow) : OwStep :=
  let o := { o with phase := .idle }
  if nbits < 40 then
    ⟨{ o with err := if timedOut then .timeout else .short, valid := false }, true⟩
  else if checksumOk acc then
    ⟨{ o with err := .none, valid := true, hum := BitVec.ofNat 16 (hum10 acc), temp := BitVec.ofInt 16 (temp10 acc) }, true⟩
  else
    ⟨{ o with err := .checksum, valid := false }, true⟩

/-- LOW phase, in a tick (40_onewire R102). -/
def owLowTick (o : Ow) : Ow :=
  if o.tcnt = 1 then { o with phase := .high, tcnt := max o.highL.toNat 1 } else { o with tcnt := o.tcnt - 1 }

/-- `enter_sample()` (40_onewire R104). -/
def enterSample (o : Ow) : OwStep :=
  if o.maxwinL = 0 then owFinish o.acc 0 false o
  else ⟨{ o with phase := .sample, last := true, cnt := 0, tcnt := 0 }, false⟩

/-- HIGH phase, in a tick (40_onewire R103). -/
def owHighTick (o : Ow) : OwStep :=
  if o.tcnt = 1 then enterSample o else ⟨{ o with tcnt := o.tcnt - 1 }, false⟩

/-- One bit shifted into an accumulator byte, most significant first (40_onewire R106). -/
def shiftIn (b : Byte) (bit : Bool) : Byte := BitVec.ofNat 8 (2 * b.toNat + bit.toNat)

/-- Whether window `i` carries a data bit when `j` bits are collected (40_onewire R106). -/
def isDataWindow (i j : Nat) : Bool := decide (4 ≤ i) && decide (i % 2 = 0) && decide (j < 40)

/-- `window_end(i, d)`: window `i` of duration `d` ends (40_onewire R106). -/
def windowEnd (i d : Nat) (o : Ow) : Ow :=
  let j := o.nbits.toNat
  if isDataWindow i j then
    let bit := decide (d > o.thrL.toNat)
    { o with
      acc := o.acc.setIfInBounds (j / 8) (shiftIn (o.acc[j / 8]?.getD 0) bit)
      nbits := BitVec.ofNat 6 (j + 1) }
  else o

/-- SAMPLE step, in a tick, with `level` = `ow_s` (40_onewire R105, R107, R108). -/
def owSampleTick (level : Bool) (o : Ow) : OwStep :=
  if level = o.last then
    let n := o.cnt.toNat + 1
    if n = 255 then owFinish o.acc o.nbits.toNat true { o with timedOut := true }
    else ⟨{ o with cnt := BitVec.ofNat 8 n }, false⟩
  else
    let o' := windowEnd o.win.toNat o.cnt.toNat o
    let w := o.win.toNat + 1
    let o'' := { o' with last := level, cnt := 1, win := BitVec.ofNat 7 w }
    if w = o.maxwinL.toNat then owFinish o''.acc o''.nbits.toNat false o'' else ⟨o'', false⟩

/-- The autonomous update of OW in one cycle: nothing changes in a cycle that is no tick, nor in an idle unit
(40_onewire R102, R103, R105; 60_exceptions R240). -/
def owUpdate (tick level : Bool) (o : Ow) : OwStep :=
  if tick then
    match o.phase with
    | .idle => ⟨o, false⟩
    | .low => ⟨owLowTick o, false⟩
    | .high => owHighTick o
    | .sample => owSampleTick level o
  else ⟨o, false⟩

/-- OW when an OW_READ is accepted with the configuration `cfg` (40_onewire R101, R116). -/
def owAccept (b : Build) (cfg : OwCfg) (o : Ow) : Ow :=
  { o with
    thrL := cfg.thresh
    maxwinL := cfg.maxWin
    highL := cfg.startHigh
    tcnt := cfg.startLowMs.toNat * b.ticksPerMs + 1
    phase := .low
    acc := #v[0, 0, 0, 0, 0]
    nbits := 0
    win := 0
    timedOut := false
    hum := 0
    temp := 0
    valid := false
    err := .none }

/-- OW_READ (40_onewire R101). -/
def execOwRead (s : State) : Host.Outcome State Fault Refusal :=
  .next (if owBusy s then setCollide s else { s with ow := owAccept s.build s.owCfg s.ow })

end Sys2Proof.Machine
end

