-- ==== Sys2Proof/Machine/PulseCounter.lean ====
section
/-! DEFINITION. PC, the pulse counter and debouncer: PC_TAKE and the update of every line in every cycle
(41_pulse_counter R140 to R151). -/

namespace Sys2Proof.Machine

/-- `qual`: a level change of an enabled line in its configured direction (41_pulse_counter R141). -/
def qualifyingEdge (en edgeFall prev cur : Bool) : Bool :=
  en && (if edgeFall then prev && !cur else !prev && cur)

/-- `tmr1`: the debounce timer after this cycle's step (41_pulse_counter R143). -/
def debounceStep (tick : Bool) (tmr : Nat) : Nat := if tick && decide (tmr > 0) then tmr - 1 else tmr

/-- `accept` for line `n` in one cycle, with PC_CTRL of the start of the cycle (41_pulse_counter R144, 20_memory R62). -/
def edgeAccepted (ctrl : PcCtrl) (tick : Bool) (n : Nat) (pin : Bool) (l : Line) : Bool :=
  qualifyingEdge (ctrl.en.getLsbD n) (ctrl.edgeFall.getLsbD n) l.prev (syncValue pin l.sync) &&
    decide (debounceStep tick l.tmr = 0)

/-- The update of line `n` in one cycle (41_pulse_counter R141 to R145), on the line as the host's command of the cycle
left it: after an accepted PC_TAKE its count and OVF are already 0, the `base` of R145 (R147). -/
def lineUpdate (b : Build) (ctrl : PcCtrl) (tick : Bool) (n : Nat) (pin : Bool) (l : Line) : Line :=
  let tmr1 := debounceStep tick l.tmr
  let accept := edgeAccepted ctrl tick n pin l
  { l with
    sync := syncShift pin l.sync
    prev := syncValue pin l.sync
    tmr := if accept then ctrl.dbMs.toNat * b.ticksPerMs else tmr1
    count := if accept then BitVec.ofNat 32 (satNat 32 (l.count.toNat + 1)) else l.count
    ovf := l.ovf || (accept && decide (l.count.toNat = 2 ^ 32 - 1)) }

/-- Every line from number `n` on: no update of a line reads or writes another line (41_pulse_counter R140). -/
def linesUpdate (b : Build) (ctrl : PcCtrl) (tick : Bool) (pins : Byte) (n : Nat) : List Line → List Line
  | [] => []
  | l :: ls => lineUpdate b ctrl tick n (pins.getLsbD n) l :: linesUpdate b ctrl tick pins (n + 1) ls

/-- A line whose count is taken, before the edge of the cycle is counted (41_pulse_counter R146). -/
def takeLine (l : Line) : Line := { l with taken := l.count, tovf := l.ovf, count := 0, ovf := false }

/-- PC_TAKE of line `n` (41_pulse_counter R146).  PC is never busy, so it never collides. -/
def execPcTake (n : Nat) (s : State) : Host.Outcome State Fault Refusal :=
  .next
    (if n ≥ s.build.nlines then setBadcmd s
     else { s with lines := s.lines.set n (takeLine (s.line n)) })

end Sys2Proof.Machine
end

