-- ==== Sys2Proof/Machine/Vane.lean ====
section
/-! DEFINITION. VANE, the divider inversion and classification: VANE_RESOLVE and its countdown (42_vane R170 to R180). -/

namespace Sys2Proof.Machine

/-- `ANGLE_k = 225*k` decidegrees (42_vane R170). -/
def romAngle (k : Nat) : Nat := 225 * k

/-- `VANE_R[k]` in ohms (42_vane R171). -/
def romOhms (b : Build) (k : Nat) : Nat := (b.vaneR[k]?.getD 0).toNat

/-- A degenerate code: `c == 0` or `c > ADC_FS` (42_vane R175). -/
def degenerate (b : Build) (c : Nat) : Bool := decide (c = 0) || decide (c > b.adcFs.value)

/-- `num := r * (ADC_FS - c)` of a non-degenerate code (42_vane R176). -/
def dividerNum (b : Build) (c r : Nat) : Nat := r * (b.adcFs.value - c)

/-- VANE_RES: the resistance in 1/256 ohm, floored and saturated (42_vane R176). -/
def vaneResistance (b : Build) (c r : Nat) : Nat := satNat 32 (256 * dividerNum b c r / c)

/-- `dist(k) = | num - VANE_R[k] * c |` (42_vane R177). -/
def romDistance (b : Build) (c r k : Nat) : Nat := ((dividerNum b c r : Int) - (romOhms b k * c : Nat)).natAbs

/-- The scan of 42_vane R177 from entry `k` on, the best entry and distance so far given: a later entry wins only when
it is strictly nearer, so the lowest index wins ties. -/
def scanNearest (dist : Nat → Nat) (best : Nat) (k : Nat) : Nat → Nat
  | 0 => best
  | fuel + 1 => scanNearest dist (if dist k < dist best then k else best) (k + 1) fuel

/-- The entry chosen: "the least k in 0..15 with dist(k) == min over j of dist(j)" (42_vane R177). -/
def nearestEntry (b : Build) (c r : Nat) : Nat := scanNearest (romDistance b c r) 0 1 15

/-- VANE_OUT of entry `k` (10_state R43, 42_vane R179). -/
def vaneOutWord (k : Nat) : Word := BitVec.ofNat 32 (2 ^ 16 * romAngle k + 2 ^ 4 * (sector (romAngle k)).code + k)

/-- `vane_complete(c, r)` on the unit (42_vane R179). -/
def vaneComplete (b : Build) (c r : Nat) (v : Vane) : Vane :=
  if degenerate b c then { v with degen := true, valid := false, res := 0, out := 0 }
  else
    { v with
      res := BitVec.ofNat 32 (vaneResistance b c r)
      out := vaneOutWord (nearestEntry b c r)
      degen := false
      valid := true }

/-- VANE when a VANE_RESOLVE of the code `c` is accepted, before any completion in the same cycle (42_vane R174). -/
def vaneAccept (c : BitVec 12) (r : BitVec 24) (v : Vane) : Vane :=
  { v with cL := c, rL := r, valid := false, degen := false }

/-- VANE_RESOLVE (42_vane R174).  The operand is the 12-bit field ARG: a number that does not fit it, which no command
word encodes, is taken modulo 2^12 (log 9). -/
def execVaneResolve (c : Nat) (s : State) : Host.Outcome State Fault Refusal :=
  let code := BitVec.ofNat 12 c
  let v := vaneAccept code s.vaneRref s.vane
  .next
    (if vaneBusy s then setCollide s
     else if s.build.vaneLat = 0 then
       { s with
         vane := vaneComplete s.build code.toNat s.vaneRref.toNat v
         irqStatus := irqWith true .vaneDone s.irqStatus }
     else { s with vane := { v with cnt := s.build.vaneLat } })

/-- Whether the countdown completes in this cycle: `Reg(vane_cnt) == 1` (42_vane R174). -/
def vaneCompletes (v : Vane) : Bool := decide (v.cnt = 1)

/-- The countdown of a busy VANE in one cycle (42_vane R174). -/
def vaneUpdate (b : Build) (v : Vane) : Vane :=
  let v' := { v with cnt := v.cnt - 1 }
  if vaneCompletes v then vaneComplete b v.cL.toNat v.rL.toNat v' else v'

end Sys2Proof.Machine
end

