-- ==== Sys2Proof/Machine/Dispatch.lean ====
section
/-! DEFINITION. The dispatch of the seven commands (44_control R220).  `exec i s` is what the command alone does to the
start-of-cycle state; the autonomous updates of the cycle are in Machine/Cycle.lean (60_exceptions R240). -/

namespace Sys2Proof.Machine

def exec (i : Instr) (s : State) : Host.Outcome State Fault Refusal :=
  match i with
  | .nop => Sys2Proof.Machine.execNop s
  | .owRead => Sys2Proof.Machine.execOwRead s
  | .vaneResolve c => Sys2Proof.Machine.execVaneResolve c s
  | .cmeanClear => Sys2Proof.Machine.execCmeanClear s
  | .cmeanAdd a => Sys2Proof.Machine.execCmeanAdd a s
  | .cmeanCompute => Sys2Proof.Machine.execCmeanCompute s
  | .pcTake n => Sys2Proof.Machine.execPcTake n s

end Sys2Proof.Machine
end

