-- ==== Sys2Proof/Machine/Registers.lean ====
section
/-! DEFINITION. The register map and what a host read returns and a host write does (10_state R26 to R53, 20_memory R60
to R69, 44_control R224, R225). -/

namespace Sys2Proof.Machine

/-- The registers of the map (10_state R26). -/
inductive Reg where
  | id
  | cmd
  | status
  | irqEn
  | irqStatus
  | owCfg
  | owRaw0
  | owRaw1
  | owResult
  | vaneRref
  | vaneRes
  | vaneOut
  | cmeanN
  | cmeanSsum
  | cmeanCsum
  | cmeanOut
  | pcCtrl
  | pcStatus
  | pcCount (n : Nat)
  | pcTaken (n : Nat)
  | vaneRom (k : Nat)
  deriving DecidableEq, Repr

/-- The register word number `r` = `off[7:2]` names; `none` for a reserved offset (10_state R26, R27). -/
def regOfIndex (b : Build) (r : Nat) : Option Reg :=
  match r with
  | 0 => some .id
  | 1 => some .cmd
  | 2 => some .status
  | 3 => some .irqEn
  | 4 => some .irqStatus
  | 5 => some .owCfg
  | 6 => some .owRaw0
  | 7 => some .owRaw1
  | 8 => some .owResult
  | 9 => some .vaneRref
  | 10 => some .vaneRes
  | 11 => some .vaneOut
  | 12 => some .cmeanN
  | 13 => some .cmeanSsum
  | 14 => some .cmeanCsum
  | 15 => some .cmeanOut
  | 16 => some .pcCtrl
  | 17 => some .pcStatus
  | _ =>
    if 20 ≤ r ∧ r < 20 + b.nlines then some (.pcCount (r - 20))
    else if 28 ≤ r ∧ r < 28 + b.nlines then some (.pcTaken (r - 28))
    else if 48 ≤ r ∧ r < 64 then some (.vaneRom (r - 48))
    else none

/-- The register an offset names: "Only bits[7:2] of bus_addr select a register" (20_memory R63). -/
def regOf (b : Build) (off : Byte) : Option Reg := regOfIndex b (off.toNat / 4)

/-- The offset of a register (10_state R26). -/
def Reg.offset : Reg → Nat
  | .id => 0x00
  | .cmd => 0x04
  | .status => 0x08
  | .irqEn => 0x0C
  | .irqStatus => 0x10
  | .owCfg => 0x14
  | .owRaw0 => 0x18
  | .owRaw1 => 0x1C
  | .owResult => 0x20
  | .vaneRref => 0x24
  | .vaneRes => 0x28
  | .vaneOut => 0x2C
  | .cmeanN => 0x30
  | .cmeanSsum => 0x34
  | .cmeanCsum => 0x38
  | .cmeanOut => 0x3C
  | .pcCtrl => 0x40
  | .pcStatus => 0x44
  | .pcCount n => 0x50 + 4 * n
  | .pcTaken n => 0x70 + 4 * n
  | .vaneRom k => 0xC0 + 4 * k

/-- ID (10_state R31). -/
def idWord (b : Build) : Word := BitVec.ofNat 32 0x57440001 ||| BitVec.ofNat 32 (2 ^ 8 * b.nlines)

/-- OW_CFG as a host reads it (10_state R35). -/
def owCfgWord (c : OwCfg) : Word :=
  BitVec.ofNat 32 (c.thresh.toNat + 2 ^ 8 * c.startLowMs.toNat + 2 ^ 16 * c.startHigh.toNat + 2 ^ 24 * c.maxWin.toNat)

/-- OW_CFG after a write of `v`: every field replaced, bit 31 ignored (10_state R28, R35). -/
def owCfgOf (v : Word) : OwCfg where
  thresh := v.extractLsb' 0 8
  startLowMs := v.extractLsb' 8 8
  startHigh := v.extractLsb' 16 8
  maxWin := v.extractLsb' 24 7

/-- PC_CTRL as a host reads it (10_state R45). -/
def pcCtrlWord (c : PcCtrl) : Word :=
  BitVec.ofNat 32 (c.en.toNat + 2 ^ 8 * c.edgeFall.toNat + 2 ^ 16 * c.dbMs.toNat)

/-- `M = 2^NLINES - 1` (44_control R225). -/
def lineMask (b : Build) : BitVec 8 := BitVec.ofNat 8 (2 ^ b.nlines - 1)

/-- PC_CTRL after a write of `v` (44_control R225). -/
def pcCtrlOf (b : Build) (v : Word) : PcCtrl where
  en := v.extractLsb' 0 8 &&& lineMask b
  edgeFall := v.extractLsb' 8 8 &&& lineMask b
  dbMs := v.extractLsb' 16 8

/-- OW_RAW0: frame bytes 0 to 3, byte 0 lowest (10_state R36, 20_memory R65). -/
def owRaw0Word (o : Ow) : Word :=
  BitVec.ofNat 32
    ((o.acc[0]?.getD 0).toNat + 2 ^ 8 * (o.acc[1]?.getD 0).toNat + 2 ^ 16 * (o.acc[2]?.getD 0).toNat +
      2 ^ 24 * (o.acc[3]?.getD 0).toNat)

/-- OW_RAW1: frame byte 4, NBITS, NWIN (10_state R37). -/
def owRaw1Word (o : Ow) : Word :=
  BitVec.ofNat 32 ((o.acc[4]?.getD 0).toNat + 2 ^ 8 * o.nbits.toNat + 2 ^ 16 * o.win.toNat)

/-- The value a host reads in a register, from the state at the start of the cycle (44_control R224). -/
def regRead (s : State) : Reg → Word
  | .id => idWord s.build
  | .cmd => 0
  | .status => statusWord s
  | .irqEn => BitVec.setWidth 32 s.irqEn
  | .irqStatus => BitVec.setWidth 32 s.irqStatus
  | .owCfg => owCfgWord s.owCfg
  | .owRaw0 => owRaw0Word s.ow
  | .owRaw1 => owRaw1Word s.ow
  | .owResult => BitVec.ofNat 32 (s.ow.hum.toNat + 2 ^ 16 * s.ow.temp.toNat)
  | .vaneRref => BitVec.setWidth 32 s.vaneRref
  | .vaneRes => s.vane.res
  | .vaneOut => s.vane.out
  | .cmeanN => BitVec.setWidth 32 s.cmean.n
  | .cmeanSsum => s.cmean.ssum
  | .cmeanCsum => s.cmean.csum
  | .cmeanOut => s.cmean.out
  | .pcCtrl => pcCtrlWord s.pcCtrl
  | .pcStatus => pcStatusWord s
  | .pcCount n => (s.line n).count
  | .pcTaken n => (s.line n).taken
  | .vaneRom k => BitVec.setWidth 32 (s.build.vaneR[k]?.getD 0)

/-- `BusRead(off)`: a reserved offset reads 0 (10_state R27, 20_memory R61, 44_control R224). -/
def busRead (s : State) (off : Byte) : Word :=
  match regOf s.build off with
  | some r => regRead s r
  | none => 0

/-- The effect of a host write to a register other than CMD (44_control R225); a write to a read-only register has none
(10_state R27). -/
def regWrite (r : Reg) (v : Word) (s : State) : State :=
  match r with
  | .status => { s with sticky := clearSticky v s.sticky }
  | .irqEn => { s with irqEn := v.extractLsb' 0 3 }
  | .irqStatus => { s with irqStatus := s.irqStatus &&& ~~~(v.extractLsb' 0 3) }
  | .owCfg => { s with owCfg := owCfgOf v }
  | .vaneRref => { s with vaneRref := v.extractLsb' 0 24 }
  | .pcCtrl => { s with pcCtrl := pcCtrlOf s.build v }
  | .id | .cmd | .owRaw0 | .owRaw1 | .owResult | .vaneRes | .vaneOut | .cmeanN | .cmeanSsum | .cmeanCsum | .cmeanOut => s
  | .pcStatus | .pcCount _ | .pcTaken _ | .vaneRom _ => s

/-- The byte a host sees at a byte address of the platform: lane j of word r is at BASE + 4*r + j, little-endian
(20_memory R65, R69); `none` outside the block of 256 bytes. -/
def State.byteAt (s : State) (addr : Nat) : Option Byte :=
  if s.build.base ≤ addr ∧ addr < s.build.base + 256 then
    let off := addr - s.build.base
    some ((busRead s (BitVec.ofNat 8 off)).extractLsb' (8 * (off % 4)) 8)
  else none

end Sys2Proof.Machine
end

