-- ==== Sys2Proof/Machine/Cycle.lean ====
section
/-! DEFINITION. What one cycle is made of (60_exceptions R240): the inputs of the cycle, the output pins, the host's
transaction, and the autonomous updates merged with it.  Machine/Step.lean puts them together. -/

namespace Sys2Proof.Machine

/-! ### Inputs -/

/-- A cycle with no reset and no transaction, the lines at their idle levels: the OneWire line high, the pulse lines low
(70_reset R261). -/
def Input.quiet : Input := ⟨false, 0, 0, 0, true, 0⟩

/-- A cycle that no listed input describes: no reset, no transaction, and free pin levels (log 4). -/
def freeInput (cycle : Nat) : Input := ⟨false, 0, 0, 0, Config.freeOwIn cycle, Config.freePcIn cycle⟩

/-- The inputs of the next cycle. -/
def State.nextInput (s : State) : Input := s.inputs.headD (freeInput s.cycle)

/-- The transaction the bus pins present; a `bus_req` of 3 is treated as idle (10_state R22, 20_memory R60). -/
def Input.transaction (i : Input) : Transaction :=
  if i.busReq = 1 then .read i.busAddr
  else if i.busReq = 2 then .write i.busAddr i.busWdata
  else .idle

/-- An input whose bus pins present a transaction. -/
def Input.withTransaction (i : Input) : Transaction → Input
  | .idle => { i with busReq := 0 }
  | .read off => { i with busReq := 1, busAddr := off }
  | .write off v => { i with busReq := 2, busAddr := off, busWdata := v }

/-! ### Outputs -/

/-- `bus_rdata`: the register read (20_memory R61); 0 in an idle cycle, as in one whose `bus_req` is 3 (10_state R22);
the free value of the cycle in a write cycle (log 5). -/
def rdataPin (s : State) : Transaction → Word
  | .idle => 0
  | .read off => busRead s off
  | .write _ _ => Config.freeRdata s.cycle

/-- The output pins of a cycle, functions of the state at its start (10_state R23); all 0 while `rst` = 1. -/
def outputs (i : Input) (s : State) : Outputs :=
  if i.rst then Outputs.inReset
  else
    { owOe := decide (s.ow.phase = .low) || decide (s.ow.phase = .high)
      owOut := decide (s.ow.phase = .high)
      owBusy := owBusy s
      irq := irqLevel s
      busRdata := rdataPin s i.transaction }

/-! ### The host's transaction -/

/-- A write of `v` to CMD issues exactly one command (44_control R220). -/
def issue (v : Word) (s : State) : Host.Outcome State Fault Refusal :=
  match decode v with
  | .command i => exec i s
  | .reserved _ => reservedCommand s

/-- What the host's transaction of the cycle does to the start-of-cycle state (20_memory R61, R62; 44_control R225). -/
def hostEffect (t : Transaction) (s : State) : Host.Outcome State Fault Refusal :=
  match t with
  | .idle => .next s
  | .read _ => .next s
  | .write off v =>
    match regOf s.build off with
    | some .cmd => issue v s
    | some r => .next (regWrite r v s)
    | none => .next s

/-! ### The autonomous updates -/

/-- OW after the cycle: a busy unit takes its step, an idle unit is as the host left it (60_exceptions R240 step 6). -/
def owAfter (i : Input) (s t : State) : OwStep :=
  if owBusy s then owUpdate s.tick (syncValue i.owIn s.owSync) s.ow else ⟨t.ow, false⟩

/-- VANE after the cycle. -/
def vaneAfter (s t : State) : Vane := if vaneBusy s then vaneUpdate s.build s.vane else t.vane

/-- CMEAN after the cycle. -/
def cmeanAfter (s t : State) : Cmean := if cmeanBusy s then cmeanUpdate s.cmean else t.cmean

/-- IRQ_STATUS after the cycle: the host's clear first, then what the units raise, so that a set wins (10_state R38). -/
def irqAfter (i : Input) (s t : State) : BitVec 3 :=
  irqWith (owAfter i s t).done .owDone
    (irqWith (vaneBusy s && vaneCompletes s.vane) .vaneDone
      (irqWith (cmeanBusy s && cmeanCompletes s.cmean) .cmeanDone t.irqStatus))

/-- The end of a cycle without reset: `s` is the state at its start and `t` what the host's transaction made of it.
Every unit decides from `s`; the writes land together (60_exceptions R240). -/
def merge (i : Input) (s t : State) : State :=
  { t with
    inputs := s.inputs.tail
    cycle := s.cycle + 1
    out := outputs i s
    presc := nextPresc s
    owSync := syncShift i.owIn s.owSync
    ow := (owAfter i s t).ow
    vane := vaneAfter s t
    cmean := cmeanAfter s t
    irqStatus := irqAfter i s t
    lines := linesUpdate s.build s.pcCtrl s.tick i.pcIn 0 t.lines }

/-- The end of a cycle with `rst` = 1: every piece of state takes its reset value, and nothing else happens (70_reset
R260). -/
def afterReset (s : State) : State :=
  { State.resetOf s.build with inputs := s.inputs.tail, cycle := s.cycle + 1 }

/-- The cycle of an input that holds `rst` low: the host's transaction, then the merge. -/
def runCycle (i : Input) (s : State) : Host.Outcome State Fault Refusal :=
  match hostEffect i.transaction s with
  | .next t => .next (merge i s t)
  | .fault f => .fault f
  | .refused r => .refused r

/-- The state whose next cycle presents the transaction `t` with `rst` low; the listed pin levels of that cycle stay, and
where none is listed the lines are at their idle levels (log 10). -/
def presenting (t : Transaction) (s : State) : State :=
  { s with inputs := ({ s.inputs.headD Input.quiet with rst := false }).withTransaction t :: s.inputs.tail }

end Sys2Proof.Machine
end

