-- ==== Sys2Proof/Machine/Step.lean ====
section
/-! DEFINITION. One step of the machine is one rising edge of `clk` (00_scope R11, 60_exceptions R240). -/

namespace Sys2Proof.Machine

/-- One cycle: with `rst` = 1 the reset state (70_reset R260), else the host's transaction merged with every unit's
update. -/
def step (s : State) : Host.Outcome State Fault Refusal :=
  if s.nextInput.rst then .next (afterReset s) else runCycle s.nextInput s

/-- `s` with the command word `w` presented in its next cycle as a write to CMD (30_encoding R80; log 10). -/
def State.withFetchWord (s : State) (nbits w : Nat) : State :=
  presenting (.write 0x04 (BitVec.ofNat 32 (w % 2 ^ nbits))) s

end Sys2Proof.Machine
end

