-- ==== Sys2Proof/Safety.lean ====
section
/-! DEFINITION. What the claims speak of: the legal states of each unit and of the machine, quiescence, runs without
reset, and what a run counts. -/

namespace Sys2Proof.Machine

/-! ### Legal states -/

/-- How many data bits have arrived when `win` windows have ended: windows 4, 6, ..., 82 carry one (40_onewire R106). -/
def dataBits (win : Nat) : Nat := min 40 ((win - 3) / 2)

/-- A legal line: its synchroniser has SYNC_STAGES flip-flops and its timer fits 255*TICKS_PER_MS (10_state R49). -/
structure Line.Legal (b : Build) (l : Line) : Prop where
  sync_length : l.sync.length = b.syncStages
  tmr_le : l.tmr ≤ 255 * b.ticksPerMs

/-- A legal OW unit (10_state R40; 40_onewire R101 to R109). -/
structure Ow.Legal (b : Build) (o : Ow) : Prop where
  /-- The start-low count is running (R101, R102). -/
  low_tcnt : o.phase = .low → 1 ≤ o.tcnt ∧ o.tcnt ≤ 255 * b.ticksPerMs + 1
  /-- The start-high count is running (R103). -/
  high_tcnt : o.phase = .high → 1 ≤ o.tcnt ∧ o.tcnt ≤ 255
  /-- No bit or window before SAMPLE. -/
  start_empty : o.phase = .low ∨ o.phase = .high → o.win = 0
  /-- A window is in progress, below the window count and below the tick cap (R105, R107, R108). -/
  sample_open : o.phase = .sample → o.win.toNat < o.maxwinL.toNat ∧ o.cnt.toNat ≤ 254
  /-- The bits collected are those of the data windows ended (R106). -/
  nbits_eq : o.nbits.toNat = dataBits o.win.toNat
  /-- While a read runs there is no verdict and OW_RESULT reads 0 (R101, 70_reset R264 item 4). -/
  busy_blank : o.phase ≠ .idle → o.valid = false ∧ o.err = .none ∧ o.hum = 0 ∧ o.temp = 0 ∧ o.timedOut = false
  /-- OW_VALID means a whole frame with a right checksum, and OW_RESULT holds its Reading (R109 to R112). -/
  valid_means : o.valid = true →
    o.err = .none ∧ o.nbits = 40 ∧ checksumOk o.acc = true ∧ o.hum = BitVec.ofNat 16 (hum10 o.acc) ∧
      o.temp = BitVec.ofInt 16 (temp10 o.acc)
  /-- TIMEOUT: the tick cap before 40 bits (R107, R109). -/
  timeout_means : o.err = .timeout → o.valid = false ∧ o.nbits.toNat < 40 ∧ o.timedOut = true
  /-- SHORT: every window ended before 40 bits, without a timeout (R108, R109). -/
  short_means : o.err = .short → o.valid = false ∧ o.nbits.toNat < 40 ∧ o.timedOut = false ∧ o.win = o.maxwinL
  /-- CHECKSUM: a whole frame with a wrong checksum (R109, R110). -/
  checksum_means : o.err = .checksum → o.valid = false ∧ o.nbits = 40 ∧ checksumOk o.acc = false

/-- A legal VANE unit (10_state R43, R44; 42_vane R174, R179). -/
structure Vane.Legal (b : Build) (v : Vane) : Prop where
  cnt_le : v.cnt ≤ b.vaneLat
  busy_blank : v.cnt ≠ 0 → v.valid = false ∧ v.degen = false
  one_verdict : ¬(v.valid = true ∧ v.degen = true)
  degen_means : v.degen = true → v.res = 0 ∧ v.out = 0
  out_entry : ∃ k, k < 16 ∧ v.out = vaneOutWord k

/-- A legal CMEAN unit (10_state R50 to R52; 43_circular_mean R194, R196, R199). -/
structure Cmean.Legal (b : Build) (m : Cmean) : Prop where
  cnt_le : m.cnt ≤ b.cmeanLat
  busy_blank : m.cnt ≠ 0 → m.valid = false ∧ m.fault = false
  /-- "the sums never wrap" (10_state R50): a term has magnitude at most 16384. -/
  ssum_bound : m.ssum.toInt.natAbs ≤ 16384 * m.n.toNat
  csum_bound : m.csum.toInt.natAbs ≤ 16384 * m.n.toNat
  /-- CMEAN_FAULT: the set in the accumulator has no direction (R199). -/
  fault_means : m.fault = true → m.valid = false ∧ m.ssum = 0 ∧ m.csum = 0 ∧ m.out = 0
  /-- CMEAN_VALID: CMEAN_OUT holds the mean of the current accumulator (10_state R33). -/
  valid_means : m.valid = true →
    (m.ssum ≠ 0 ∨ m.csum ≠ 0) ∧ m.out = cmeanOutWord (meanDeci m.ssum.toInt m.csum.toInt)
  out_angle : ∃ r, r < 3600 ∧ m.out = cmeanOutWord r

/-- A legal state of the machine: the invariant of every run. -/
structure State.Legal (s : State) : Prop where
  build_ok : s.build.wellFormed = true
  presc_lt : s.presc < s.build.clkPerTick
  ow_sync_length : s.owSync.length = s.build.syncStages
  lines_length : s.lines.length = s.build.nlines
  lines_legal : ∀ l ∈ s.lines, l.Legal s.build
  /-- EN[n] and EDGE_FALL[n] read 0 for n >= NLINES (10_state R45). -/
  en_lt : s.pcCtrl.en.toNat < 2 ^ s.build.nlines
  edge_fall_lt : s.pcCtrl.edgeFall.toNat < 2 ^ s.build.nlines
  ow_legal : s.ow.Legal s.build
  vane_legal : s.vane.Legal s.build
  cmean_legal : s.cmean.Legal s.build

/-- A quiescent state, in which no operation is in progress (70_reset R268). -/
def State.Quiescent (s : State) : Prop := s.ow.phase = .idle ∧ s.vane.cnt = 0 ∧ s.cmean.cnt = 0

/-! ### Runs -/

/-- The transaction of the next cycle. -/
def State.nextTransaction (s : State) : Transaction := s.nextInput.transaction

/-- No cycle of the listed inputs holds `rst` high. -/
def State.NoReset (s : State) : Prop := ∀ i ∈ s.inputs, i.rst = false

/-- A run that never stops: every number of cycles leads to a next state (60_exceptions R230, 70_reset R266). -/
def State.RunsForever (s : State) : Prop := ∀ k, ∃ t, Sys2Proof.core.run k s = .next t

/-- `f` summed over the first `k` states of the run from `s`: the states at the start of those cycles. -/
def runSum (f : State → Nat) : Nat → State → Nat
  | 0, _ => 0
  | k + 1, s =>
    f s +
      match step s with
      | .next t => runSum f k t
      | .fault _ => 0
      | .refused _ => 0

/-- Whether the next cycle, its `rst` low, accepts an edge on line `n` (41_pulse_counter R144). -/
def State.acceptsEdge (s : State) (n : Nat) : Bool :=
  edgeAccepted s.pcCtrl s.tick n (s.nextInput.pcIn.getLsbD n) (s.line n)

/-- Whether the next cycle issues a PC_TAKE of line `n` (41_pulse_counter R146). -/
def State.takesLine (s : State) (n : Nat) : Bool :=
  match s.nextTransaction with
  | .write off v => decide (off.toNat / 4 = 1) && decide (decode v = .command (.pcTake n))
  | .read _ => false
  | .idle => false

/-- Whether the next cycle's transaction issues the command `i`. -/
def State.Issues (s : State) (i : Instr) : Prop :=
  ∃ off v, s.nextTransaction = .write off v ∧ off.toNat / 4 = 1 ∧ decode v = .command i

end Sys2Proof.Machine
end

