-- ==== Sys2Proof/Certificates/Slice0/Obligations.lean ====
section
/-! DEFINITION. The statements for the provers, in the order of the spec's files. -/

open Sys2Proof Sys2Proof.Machine

/-! ### Encoding -/

/-- 30_encoding R85, R89: what the assembler emits for a well-formed command decodes to that command. -/
def Obligations.DecodeOfEncodeIsTheCommand : Prop :=
  ∀ i : Instr, i.wellFormed = true → decode (encode i) = .command i

/-- 30_encoding R82, R85, R87: a command decodes from exactly the words whose OPC is its opcode and whose used fields are
its operands; every other bit is ignored. -/
def Obligations.DecodeReadsOnlyTheUsedFields : Prop :=
  ∀ w : Word,
    (decode w = .command .nop ↔ w &&& 0xFF = 0x00) ∧
    (decode w = .command .owRead ↔ w &&& 0xFF = 0x01) ∧
    (∀ c, decode w = .command (.vaneResolve c) ↔ w &&& 0xFF = 0x10 ∧ (w.extractLsb' 16 12).toNat = c) ∧
    (decode w = .command .cmeanClear ↔ w &&& 0xFF = 0x20) ∧
    (∀ a, decode w = .command (.cmeanAdd a) ↔ w &&& 0xFF = 0x21 ∧ (w.extractLsb' 16 12).toNat = a) ∧
    (decode w = .command .cmeanCompute ↔ w &&& 0xFF = 0x22) ∧
    (∀ n, decode w = .command (.pcTake n) ↔ w &&& 0xFF = 0x30 ∧ (w.extractLsb' 8 4).toNat = n)

/-- 30_encoding R85, R86: every word is one of the seven commands, well formed, or a reserved word, and the reserved words
are those of the 249 other opcodes. -/
def Obligations.EveryWordIsACommandOrReserved : Prop :=
  ∀ w : Word,
    (∃ i : Instr, decode w = .command i ∧ i.wellFormed = true) ↔
      w.extractLsb' 0 8 ∈ ([0x00, 0x01, 0x10, 0x20, 0x21, 0x22, 0x30] : List Byte)

/-- 30_encoding R82, R89: words of the spec's table of pseudo-instructions decode to their commands, and so do two words
with ignored bits set: that of vector M22, and one with every ignored bit set. -/
def Obligations.SampleWordsDecode : Prop :=
  decode 0x00000000 = .command .nop ∧
  decode 0x00000001 = .command .owRead ∧
  decode 0x08000010 = .command (.vaneResolve 2048) ∧
  decode 0x00000020 = .command .cmeanClear ∧
  decode 0x0DAC0021 = .command (.cmeanAdd 3500) ∧
  decode 0xF3840F21 = .command (.cmeanAdd 900) ∧
  decode 0xF384FF21 = .command (.cmeanAdd 900) ∧
  decode 0x00000022 = .command .cmeanCompute ∧
  decode 0x00000F30 = .command (.pcTake 15)

/-! ### One cycle -/

/-- A step runs the decoded command (44_control R220): a write to CMD of a word that decodes to a command is, with `rst`
low, that command's effect on the start-of-cycle state merged with the autonomous updates of the cycle; and so is every
other transaction.  The merge loses nothing of that effect (60_exceptions R240): a unit that was idle at the start of the
cycle is as the effect left it, as are the sticky bits and the configuration, and no IRQ_STATUS bit is cleared. -/
def Obligations.StepRunsTheDecodedCommand : Prop :=
  (∀ (s : State) (off : Byte) (w : Word) (i : Instr),
    s.nextInput.rst = false → s.nextTransaction = .write off w → off.toNat / 4 = 1 → decode w = .command i →
      i.wellFormed = true ∧
      (∀ t, exec i s = .next t → step s = .next (merge s.nextInput s t)) ∧
      (∀ f, exec i s = .fault f → step s = .fault f) ∧ (∀ r, exec i s = .refused r → step s = .refused r)) ∧
  (∀ s t : State, s.nextInput.rst = false → hostEffect s.nextTransaction s = .next t →
    step s = .next (merge s.nextInput s t)) ∧
  ∀ (inp : Input) (s t : State),
    (s.ow.phase = .idle → (merge inp s t).ow = t.ow) ∧
    (s.vane.cnt = 0 → (merge inp s t).vane = t.vane) ∧
    (s.cmean.cnt = 0 → (merge inp s t).cmean = t.cmean) ∧
    (merge inp s t).sticky = t.sticky ∧ (merge inp s t).irqEn = t.irqEn ∧ (merge inp s t).owCfg = t.owCfg ∧
    (merge inp s t).vaneRref = t.vaneRref ∧ (merge inp s t).pcCtrl = t.pcCtrl ∧ (merge inp s t).build = t.build ∧
    ∀ k, t.irqStatus.getLsbD k = true → (merge inp s t).irqStatus.getLsbD k = true

/-- 60_exceptions R230, 70_reset R266: from every state every run goes on for ever; no step faults or refuses. -/
def Obligations.EveryRunGoesOnForEver : Prop :=
  ∀ s : State, s.RunsForever

/-- 70_reset R260: a cycle with `rst` high leaves the reset state of the build, whatever the transaction and the pins;
only the model's own list of inputs and cycle count go on (log 3, log 4). -/
def Obligations.ResetCycleLeavesTheResetState : Prop :=
  ∀ s : State, s.nextInput.rst = true →
    step s = .next { State.resetOf s.build with inputs := s.inputs.tail, cycle := s.cycle + 1 }

/-- 10_state R26, R56: what a host reads in every register of the map right after reset, for every build. -/
def Obligations.ResetRegisterValues : Prop :=
  ∀ b : Build, b.wellFormed = true →
    busRead (State.resetOf b) 0x00 = BitVec.ofNat 32 (0x57440001 + 256 * b.nlines) ∧
    busRead (State.resetOf b) 0x14 = 0x5528122E ∧
    busRead (State.resetOf b) 0x40 = 0x00320000 ∧
    (∀ k, k < 16 → busRead (State.resetOf b) (BitVec.ofNat 8 (0xC0 + 4 * k)) = BitVec.setWidth 32 (b.vaneR[k]?.getD 0)) ∧
    ∀ r, r < 48 → r ≠ 0 → r ≠ 5 → r ≠ 16 → busRead (State.resetOf b) (BitVec.ofNat 8 (4 * r)) = 0

/-- 10_state R56: the hidden state right after reset, for every build; the reset machine is that of its build. -/
def Obligations.ResetHiddenState : Prop :=
  ∀ b : Build,
    (State.resetOf b).presc = 0 ∧ (State.resetOf b).owSync = List.replicate b.syncStages true ∧
    (State.resetOf b).ow.phase = .idle ∧ (State.resetOf b).ow.tcnt = 0 ∧ (State.resetOf b).ow.cnt = 0 ∧
    (State.resetOf b).ow.last = true ∧ (State.resetOf b).ow.timedOut = false ∧
    (State.resetOf b).ow.thrL = 0 ∧ (State.resetOf b).ow.maxwinL = 0 ∧ (State.resetOf b).ow.highL = 0 ∧
    (State.resetOf b).vane.cnt = 0 ∧ (State.resetOf b).vane.cL = 0 ∧ (State.resetOf b).vane.rL = 0 ∧
    (State.resetOf b).cmean.cnt = 0 ∧
    (∀ n, n < b.nlines →
      (State.resetOf b).lines[n]? = some ⟨List.replicate b.syncStages false, false, 0, 0, 0, false, false⟩) ∧
    (State.resetOf b).Quiescent

/-- 10_state R22, R23, R233, 70_reset R261: the transaction the bus pins of a cycle present, and the output pins of the
cycle: these functions of the state at its start, and all 0 while `rst` is high. -/
def Obligations.OutputPinsAreFunctionsOfTheStartState : Prop :=
  (∀ s : State,
    (s.nextInput.busReq = 0 → s.nextTransaction = .idle) ∧
    (s.nextInput.busReq = 1 → s.nextTransaction = .read s.nextInput.busAddr) ∧
    (s.nextInput.busReq = 2 → s.nextTransaction = .write s.nextInput.busAddr s.nextInput.busWdata) ∧
    (s.nextInput.busReq = 3 → s.nextTransaction = .idle)) ∧
  ∀ s t : State, step s = .next t →
    (s.nextInput.rst = true → t.out = ⟨false, false, false, false, 0⟩) ∧
    (s.nextInput.rst = false →
      t.out.owOe = decide (s.ow.phase = .low ∨ s.ow.phase = .high) ∧
      t.out.owOut = decide (s.ow.phase = .high) ∧
      t.out.owBusy = decide (s.ow.phase ≠ .idle) ∧
      (t.out.irq = true ↔ ∃ k, k < 3 ∧ s.irqStatus.getLsbD k = true ∧ s.irqEn.getLsbD k = true) ∧
      (∀ off, s.nextTransaction = .read off → t.out.busRdata = busRead s off) ∧
      (s.nextInput.busReq = 3 → t.out.busRdata = 0))

/-- 10_state R24: the prescaler and the tick of a cycle, and over a run without reset a tick every CLK_PER_TICK cycles. -/
def Obligations.TickEveryClkPerTickCycles : Prop :=
  ∀ (k : Nat) (s t : State), s.Legal → s.NoReset → Sys2Proof.core.run k s = .next t →
    t.presc = (s.presc + k) % s.build.clkPerTick ∧ (t.tick = true ↔ (s.presc + k + 1) % s.build.clkPerTick = 0)

/-- 10_state R29: every cycle without reset shifts the pin `ow_in`, and on every line its pin, into its synchroniser; the
synchronised value is then the pin of SYNC_STAGES cycles before, and before that what the flip-flops held. -/
def Obligations.SynchroniserDelaysByItsStages : Prop :=
  (∀ s t : State, s.nextInput.rst = false → step s = .next t →
    t.owSync = syncShift s.nextInput.owIn s.owSync ∧
    ∀ (n : Nat) (l : Line), s.lines[n]? = some l →
      ∃ l', t.lines[n]? = some l' ∧ l'.sync = syncShift (s.nextInput.pcIn.getLsbD n) l.sync) ∧
  ∀ (flops pins : List Bool) (pin : Bool),
    (pins.foldl (fun f p => syncShift p f) flops).length = flops.length ∧
    syncValue pin (pins.foldl (fun f p => syncShift p f) flops) =
      (pin :: (pins.reverse ++ flops)).getD flops.length pin

/-! ### The register port -/

/-- 20_memory R61: a read changes nothing: the cycle with a read leaves what the idle cycle leaves, but for the pins of
the cycle itself. -/
def Obligations.ReadHasNoSideEffect : Prop :=
  ∀ (s : State) (off : Byte),
    ∃ t u, step (presenting (.read off) s) = .next t ∧ step (presenting .idle s) = .next u ∧
      t.out.busRdata = busRead s off ∧ { t with out := u.out } = u

/-- 20_memory R63: bits[1:0] of the address are ignored by reads and by writes. -/
def Obligations.AddressLowBitsAreIgnored : Prop :=
  ∀ (s : State) (a b : Byte) (v : Word), a.extractLsb' 2 6 = b.extractLsb' 2 6 →
    busRead s a = busRead s b ∧ hostEffect (.write a v) s = hostEffect (.write b v) s

/-- 10_state R33, 44_control R224: STATUS as a host reads it, bit by bit. -/
def Obligations.StatusReadShowsEveryFlag : Prop :=
  ∀ (s : State) (k : Nat), (busRead s 0x08).getLsbD k =
    match k with
    | 0 => decide (s.ow.phase ≠ .idle)
    | 1 => s.ow.valid
    | 2 => decide (s.ow.err = .timeout ∨ s.ow.err = .short)
    | 3 => decide (s.ow.err = .checksum ∨ s.ow.err = .short)
    | 4 => decide (s.vane.cnt ≠ 0)
    | 5 => s.vane.valid
    | 6 => s.vane.degen
    | 8 => decide (s.cmean.cnt ≠ 0)
    | 9 => s.cmean.valid
    | 10 => s.cmean.fault
    | 11 => s.sticky.cmeanRange
    | 12 => s.sticky.cmeanOvf
    | 16 => s.sticky.badcmd
    | 17 => s.sticky.collide
    | _ => false

/-- 10_state R46, 44_control R224: PC_STATUS as a host reads it, bit by bit. -/
def Obligations.PcStatusReadShowsEveryLine : Prop :=
  ∀ (s : State) (k : Nat), s.Legal →
    (busRead s 0x44).getLsbD k =
      if k < 8 then decide (k < s.build.nlines) && decide ((s.line k).tmr ≠ 0)
      else if k < 16 then decide (k - 8 < s.build.nlines) && (s.line (k - 8)).ovf
      else if k < 24 then decide (k - 16 < s.build.nlines) && (s.line (k - 16)).tovf
      else false

/-- 44_control R224: what the other registers read, field by field. -/
def Obligations.RegisterReadsShowTheirFields : Prop :=
  ∀ s : State, s.build.wellFormed = true →
    (busRead s 0x00).toNat = 0x57440001 + 256 * s.build.nlines ∧
    busRead s 0x04 = 0 ∧
    (busRead s 0x0C).toNat = s.irqEn.toNat ∧
    (busRead s 0x10).toNat = s.irqStatus.toNat ∧
    (busRead s 0x14).toNat = s.owCfg.thresh.toNat + 2 ^ 8 * s.owCfg.startLowMs.toNat +
      2 ^ 16 * s.owCfg.startHigh.toNat + 2 ^ 24 * s.owCfg.maxWin.toNat ∧
    (busRead s 0x18).toNat = s.ow.acc[0].toNat + 2 ^ 8 * s.ow.acc[1].toNat + 2 ^ 16 * s.ow.acc[2].toNat +
      2 ^ 24 * s.ow.acc[3].toNat ∧
    (busRead s 0x1C).toNat = s.ow.acc[4].toNat + 2 ^ 8 * s.ow.nbits.toNat + 2 ^ 16 * s.ow.win.toNat ∧
    (busRead s 0x20).toNat = s.ow.hum.toNat + 2 ^ 16 * s.ow.temp.toNat ∧
    (busRead s 0x24).toNat = s.vaneRref.toNat ∧
    busRead s 0x28 = s.vane.res ∧
    busRead s 0x2C = s.vane.out ∧
    (busRead s 0x30).toNat = s.cmean.n.toNat ∧
    busRead s 0x34 = s.cmean.ssum ∧
    busRead s 0x38 = s.cmean.csum ∧
    busRead s 0x3C = s.cmean.out ∧
    (busRead s 0x40).toNat = s.pcCtrl.en.toNat + 2 ^ 8 * s.pcCtrl.edgeFall.toNat + 2 ^ 16 * s.pcCtrl.dbMs.toNat ∧
    (∀ n l, n < s.build.nlines → s.lines[n]? = some l →
      busRead s (BitVec.ofNat 8 (0x50 + 4 * n)) = l.count ∧ busRead s (BitVec.ofNat 8 (0x70 + 4 * n)) = l.taken) ∧
    (∀ k, (h : k < 16) → (busRead s (BitVec.ofNat 8 (0xC0 + 4 * k))).toNat = s.build.vaneR[k].toNat)

/-- 10_state R27: a reserved offset reads 0 and a write to it does nothing; nor does a write to a read-only register. -/
def Obligations.ReservedOffsetsAndReadOnlyRegisters : Prop :=
  ∀ (s : State) (off : Byte) (v : Word), s.build.wellFormed = true →
    (off.toNat / 4 ∈ [18, 19] ∨ (36 ≤ off.toNat / 4 ∧ off.toNat / 4 < 48) ∨
        (20 + s.build.nlines ≤ off.toNat / 4 ∧ off.toNat / 4 < 28) ∨
        (28 + s.build.nlines ≤ off.toNat / 4 ∧ off.toNat / 4 < 36) →
      busRead s off = 0 ∧ hostEffect (.write off v) s = .next s) ∧
    (off.toNat / 4 ∉ [1, 2, 3, 4, 5, 9, 16] → hostEffect (.write off v) s = .next s)

/-- 44_control R225: what a write to each writable register does, and that it does nothing else. -/
def Obligations.RegisterWritesSetTheirFields : Prop :=
  ∀ (s : State) (v : Word), s.build.wellFormed = true →
    hostEffect (.write 0x0C v) s = .next { s with irqEn := v.extractLsb' 0 3 } ∧
    hostEffect (.write 0x14 v) s =
      .next { s with owCfg := ⟨v.extractLsb' 0 8, v.extractLsb' 8 8, v.extractLsb' 16 8, v.extractLsb' 24 7⟩ } ∧
    hostEffect (.write 0x24 v) s = .next { s with vaneRref := v.extractLsb' 0 24 } ∧
    (∃ en ef, hostEffect (.write 0x40 v) s = .next { s with pcCtrl := ⟨en, ef, v.extractLsb' 16 8⟩ } ∧
      ∀ n, en.getLsbD n = (decide (n < s.build.nlines) && v.getLsbD n) ∧
        ef.getLsbD n = (decide (n < s.build.nlines) && v.getLsbD (8 + n))) ∧
    (∃ st, hostEffect (.write 0x10 v) s = .next { s with irqStatus := st } ∧
      ∀ k, st.getLsbD k = (s.irqStatus.getLsbD k && !v.getLsbD k)) ∧
    hostEffect (.write 0x08 v) s =
      .next { s with sticky := ⟨s.sticky.cmeanRange && !v.getLsbD 11, s.sticky.cmeanOvf && !v.getLsbD 12,
        s.sticky.badcmd && !v.getLsbD 16, s.sticky.collide && !v.getLsbD 17⟩ }

/-- 20_memory R62, 10_state R28: in the cycle after a write to a configuration register a read returns the written value
with its reserved bits 0. -/
def Obligations.WrittenConfigurationReadsBack : Prop :=
  ∀ (s t : State) (off : Byte) (v : Word), s.build.wellFormed = true →
    s.nextInput.rst = false → s.nextTransaction = .write off v → step s = .next t →
      (off.toNat / 4 = 3 → busRead t off = v &&& 0x7) ∧
      (off.toNat / 4 = 5 → busRead t off = v &&& 0x7FFFFFFF) ∧
      (off.toNat / 4 = 9 → busRead t off = v &&& 0x00FFFFFF) ∧
      (off.toNat / 4 = 16 →
        busRead t off = v &&& BitVec.ofNat 32 (0xFF0000 + 257 * (2 ^ s.build.nlines - 1)))

/-- 10_state R38: a set wins over a clear: an IRQ_STATUS bit after a cycle is what the host's write leaves of it, or 1 when
its unit completes in the cycle (60_exceptions R232, R234).  A unit completes in the cycle that ends its busy time, or, at
latency 0, in the cycle of the accept. -/
def Obligations.IrqStatusSetWinsOverClear : Prop :=
  ∀ s t : State, s.nextInput.rst = false → step s = .next t →
    ∀ k, k < 3 →
      (t.irqStatus.getLsbD k = true ↔
        (s.irqStatus.getLsbD k = true ∧
          ¬∃ off v, s.nextTransaction = .write off v ∧ off.toNat / 4 = 4 ∧ v.getLsbD k = true) ∨
        (k = 0 ∧ s.ow.phase ≠ .idle ∧ t.ow.phase = .idle) ∨
        (k = 1 ∧ (s.vane.cnt = 1 ∨ (s.vane.cnt = 0 ∧ s.build.vaneLat = 0 ∧ ∃ c, s.Issues (.vaneResolve c)))) ∨
        (k = 2 ∧ (s.cmean.cnt = 1 ∨ (s.cmean.cnt = 0 ∧ s.build.cmeanLat = 0 ∧ s.Issues .cmeanCompute))))

/-- 10_state R38, 60_exceptions R235: a sticky bit of STATUS after a cycle is what the host's write leaves of it, or 1 when
the command of the cycle is one that its rule reports there (44_control R222, R223; 43_circular_mean R194). -/
def Obligations.StickyBitsReportTheCommandOfTheCycle : Prop :=
  ∀ (s t : State) (cleared : Nat → Prop), s.nextInput.rst = false → step s = .next t →
    (∀ k, cleared k ↔ ∃ off v, s.nextTransaction = .write off v ∧ off.toNat / 4 = 2 ∧ v.getLsbD k = true) →
    (t.sticky.badcmd = true ↔
      (s.sticky.badcmd = true ∧ ¬cleared 16) ∨
      (∃ off v o, s.nextTransaction = .write off v ∧ off.toNat / 4 = 1 ∧ decode v = .reserved o) ∨
      ∃ n, s.Issues (.pcTake n) ∧ s.build.nlines ≤ n) ∧
    (t.sticky.collide = true ↔
      (s.sticky.collide = true ∧ ¬cleared 17) ∨ (s.Issues .owRead ∧ s.ow.phase ≠ .idle) ∨
      (∃ c, s.Issues (.vaneResolve c) ∧ s.vane.cnt ≠ 0) ∨
      ((s.Issues .cmeanClear ∨ (∃ a, s.Issues (.cmeanAdd a)) ∨ s.Issues .cmeanCompute) ∧ s.cmean.cnt ≠ 0)) ∧
    (t.sticky.cmeanRange = true ↔
      (s.sticky.cmeanRange = true ∧ ¬cleared 11) ∨ ∃ a, s.Issues (.cmeanAdd a) ∧ s.cmean.cnt = 0 ∧ a > 3599) ∧
    (t.sticky.cmeanOvf = true ↔
      (s.sticky.cmeanOvf = true ∧ ¬cleared 12) ∨
      ∃ a, s.Issues (.cmeanAdd a) ∧ s.cmean.cnt = 0 ∧ a ≤ 3599 ∧ s.cmean.n = 0xFFFF)

/-- 20_memory R65, R69: the bytes a host sees are the lanes of the words, least significant first, and only those of the
256-byte block at BASE.  The bytewise view is the model's function `byteAt` (log 12). -/
def Obligations.ByteLanesAreLittleEndian : Prop :=
  ∀ s : State,
    (∀ r, r < 64 → ∃ b0 b1 b2 b3 : Byte,
      s.byteAt (s.build.base + 4 * r) = some b0 ∧ s.byteAt (s.build.base + 4 * r + 1) = some b1 ∧
      s.byteAt (s.build.base + 4 * r + 2) = some b2 ∧ s.byteAt (s.build.base + 4 * r + 3) = some b3 ∧
      busRead s (BitVec.ofNat 8 (4 * r)) = b3 ++ b2 ++ b1 ++ b0) ∧
    ∀ a, a < s.build.base ∨ s.build.base + 256 ≤ a → s.byteAt a = none

/-! ### Commands -/

/-- 44_control R221: NOP, and every word with bits[7:0] = 0, changes nothing. -/
def Obligations.NopChangesNothing : Prop :=
  (∀ s : State, exec .nop s = .next s) ∧
  ∀ (s : State) (w : Word), w &&& 0xFF = 0 → hostEffect (.write 0x04 w) s = .next s

/-- 44_control R222, 30_encoding R86: a reserved word, or a PC_TAKE of a line that does not exist, sets BADCMD and does
nothing else. -/
def Obligations.IllegalCommandOnlySetsBadcmd : Prop :=
  ∀ s : State,
    (∀ w : Word, w.extractLsb' 0 8 ∉ ([0x00, 0x01, 0x10, 0x20, 0x21, 0x22, 0x30] : List Byte) →
      hostEffect (.write 0x04 w) s = .next { s with sticky := { s.sticky with badcmd := true } }) ∧
    (∀ n, s.build.nlines ≤ n →
      exec (.pcTake n) s = .next { s with sticky := { s.sticky with badcmd := true } })

/-- 44_control R223: a command to a busy unit sets COLLIDE and does nothing else, and the running operation goes on as in
a cycle with no transaction; PC is never busy, so a PC_TAKE never sets COLLIDE. -/
def Obligations.BusyUnitDropsTheCommand : Prop :=
  (∀ (s : State) (n : Nat), ∃ t, exec (.pcTake n) s = .next t ∧ t.sticky.collide = s.sticky.collide) ∧
  ∀ (s : State) (i : Instr),
    (i = .owRead ∧ s.ow.phase ≠ .idle) ∨ ((∃ c, i = .vaneResolve c) ∧ s.vane.cnt ≠ 0) ∨
      ((i = .cmeanClear ∨ (∃ a, i = .cmeanAdd a) ∨ i = .cmeanCompute) ∧ s.cmean.cnt ≠ 0) →
    exec i s = .next { s with sticky := { s.sticky with collide := true } } ∧
    ∀ inp, merge inp s { s with sticky := { s.sticky with collide := true } } =
      { merge inp s s with sticky := { s.sticky with collide := true } }

/-- 40_onewire R101: OW_READ of an idle OW starts a read: the configuration is latched, the start-low count loaded and the
results cleared; no other state changes, and the tick of the accept cycle is not counted. -/
def Obligations.OwReadStartsAReadWhenIdle : Prop :=
  ∀ s : State, s.ow.phase = .idle →
    ∃ o : Ow, exec .owRead s = .next { s with ow := o } ∧
      o.phase = .low ∧ o.tcnt = s.owCfg.startLowMs.toNat * s.build.ticksPerMs + 1 ∧
      o.thrL = s.owCfg.thresh ∧ o.maxwinL = s.owCfg.maxWin ∧ o.highL = s.owCfg.startHigh ∧
      o.acc = #v[0, 0, 0, 0, 0] ∧ o.nbits = 0 ∧ o.win = 0 ∧ o.timedOut = false ∧
      o.hum = 0 ∧ o.temp = 0 ∧ o.valid = false ∧ o.err = .none ∧ o.cnt = s.ow.cnt ∧ o.last = s.ow.last ∧
      ∀ inp, (merge inp s { s with ow := o }).ow = o

/-- 42_vane R174, R175, R179: VANE_RESOLVE of an idle VANE: with VANE_LAT = 0 the result or the degenerate report is there
at once and VANE_DONE is raised; else the code and RREF are latched and the countdown starts. -/
def Obligations.VaneResolveWhenIdle : Prop :=
  ∀ (s : State) (c : Nat), c ≤ 4095 → s.vane.cnt = 0 →
    exec (.vaneResolve c) s = .next
      (if s.build.vaneLat = 0 then
        { s with
          vane :=
            if c = 0 ∨ c > s.build.adcFs.value then ⟨0, BitVec.ofNat 12 c, s.vaneRref, false, true, 0, 0⟩
            else ⟨0, BitVec.ofNat 12 c, s.vaneRref, true, false,
              BitVec.ofNat 32 (min (256 * (s.vaneRref.toNat * (s.build.adcFs.value - c)) / c) (2 ^ 32 - 1)),
              vaneOutWord (nearestEntry s.build c s.vaneRref.toNat)⟩
          irqStatus := s.irqStatus ||| 2 }
      else
        { s with
          vane := ⟨s.build.vaneLat, BitVec.ofNat 12 c, s.vaneRref, false, false, s.vane.res, s.vane.out⟩ })

/-- 43_circular_mean R193: CMEAN_CLEAR of an idle CMEAN. -/
def Obligations.CmeanClearWhenIdle : Prop :=
  ∀ s : State, s.cmean.cnt = 0 →
    exec .cmeanClear s = .next { s with cmean := ⟨0, 0, 0, 0, false, false, s.cmean.out⟩ }

/-- 43_circular_mean R194, R195, 10_state R50: CMEAN_ADD of an idle CMEAN: an angle over 3599 is dropped with CMEAN_RANGE,
a sample to a full set with CMEAN_OVF, and any other is added to the sums, which do not wrap. -/
def Obligations.CmeanAddWhenIdle : Prop :=
  ∀ (s : State) (a : Nat), s.cmean.cnt = 0 →
    (a > 3599 → exec (.cmeanAdd a) s = .next { s with sticky := { s.sticky with cmeanRange := true } }) ∧
    (a ≤ 3599 → s.cmean.n = 0xFFFF →
      exec (.cmeanAdd a) s = .next { s with sticky := { s.sticky with cmeanOvf := true } }) ∧
    (a ≤ 3599 → s.cmean.n ≠ 0xFFFF → s.cmean.Legal s.build →
      ∃ S C : Word, exec (.cmeanAdd a) s = .next { s with cmean := ⟨0, s.cmean.n + 1, S, C, false, false, s.cmean.out⟩ } ∧
        S.toInt = s.cmean.ssum.toInt + sinq a ∧ C.toInt = s.cmean.csum.toInt + cosq a ∧
        (s.cmean.n + 1).toNat = s.cmean.n.toNat + 1)

/-- 43_circular_mean R196, R199: CMEAN_COMPUTE of an idle CMEAN: with CMEAN_LAT = 0 the mean or the computation fault is
there at once and CMEAN_DONE is raised; else the countdown starts.  CMEAN_OUT of a mean r holds ANGLE r, SECTOR of r and 0
in its reserved bits (10_state R51). -/
def Obligations.CmeanComputeWhenIdle : Prop :=
  (∀ r, r < 3600 →
    ((cmeanOutWord r).extractLsb' 0 12).toNat = r ∧
    (cmeanOutWord r).extractLsb' 12 4 = 0 ∧
    ((cmeanOutWord r).extractLsb' 16 2).toNat = (sector r).code ∧
    (cmeanOutWord r).extractLsb' 18 14 = 0) ∧
  ∀ s : State, s.cmean.cnt = 0 →
    exec .cmeanCompute s = .next
      (if s.build.cmeanLat = 0 then
        { s with
          cmean :=
            if s.cmean.ssum = 0 ∧ s.cmean.csum = 0 then
              ⟨0, s.cmean.n, s.cmean.ssum, s.cmean.csum, false, true, 0⟩
            else
              ⟨0, s.cmean.n, s.cmean.ssum, s.cmean.csum, true, false,
                cmeanOutWord (meanDeci s.cmean.ssum.toInt s.cmean.csum.toInt)⟩
          irqStatus := s.irqStatus ||| 4 }
      else
        { s with
          cmean := ⟨s.build.cmeanLat, s.cmean.n, s.cmean.ssum, s.cmean.csum, false, false, s.cmean.out⟩ })

/-- 41_pulse_counter R146: PC_TAKE of a line: the count and OVF are captured and cleared, whether the line is enabled or
its debounce running; nothing else changes, and PC never collides. -/
def Obligations.PcTakeCapturesAndClears : Prop :=
  ∀ (s : State) (n : Nat) (l : Line), n < s.build.nlines → s.lines[n]? = some l →
    exec (.pcTake n) s =
      .next { s with lines := s.lines.set n ⟨l.sync, l.prev, l.tmr, 0, l.count, false, l.ovf⟩ }

/-- The frame of the commands (44_control R220 to R223): what each leaves unchanged when it runs.  The WSDB has no memory
(20_memory R64), so the registers and the hidden state are all there is. -/
def Obligations.CommandFrames : Prop :=
  ∀ (s t : State) (i : Instr), exec i s = .next t →
    (t.build = s.build ∧ t.inputs = s.inputs ∧ t.cycle = s.cycle ∧ t.out = s.out ∧ t.presc = s.presc ∧
      t.owSync = s.owSync ∧ t.irqEn = s.irqEn ∧ t.owCfg = s.owCfg ∧ t.vaneRref = s.vaneRref ∧ t.pcCtrl = s.pcCtrl) ∧
    (i ≠ .owRead → t.ow = s.ow) ∧
    ((∀ c, i ≠ .vaneResolve c) → t.vane = s.vane) ∧
    (i ≠ .cmeanClear → (∀ a, i ≠ .cmeanAdd a) → i ≠ .cmeanCompute → t.cmean = s.cmean) ∧
    ((∀ c, i ≠ .vaneResolve c) → i ≠ .cmeanCompute → t.irqStatus = s.irqStatus) ∧
    (∀ k, s.irqStatus.getLsbD k = true → t.irqStatus.getLsbD k = true) ∧
    ((∀ n, i ≠ .pcTake n) → t.lines = s.lines) ∧
    (∀ n, i = .pcTake n → t.lines.length = s.lines.length ∧ ∀ m, m ≠ n → t.lines[m]? = s.lines[m]?) ∧
    (i = .nop → t.sticky = s.sticky)

/-- 60_exceptions R235: a command reports at most one outcome: from cleared sticky bits at most one is set, by the first
check that applies, and no command clears a sticky bit. -/
def Obligations.CommandReportsAtMostOneOutcome : Prop :=
  ∀ (s t : State) (i : Instr), exec i s = .next t →
    t.sticky = s.sticky ∨ t.sticky = { s.sticky with badcmd := true } ∨ t.sticky = { s.sticky with collide := true } ∨
      t.sticky = { s.sticky with cmeanRange := true } ∨ t.sticky = { s.sticky with cmeanOvf := true }

/-! ### OW -/

/-- 40_onewire R102, R103: the start pulse in a tick cycle: LOW counts down and hands over to HIGH, HIGH counts down and
hands over to SAMPLE or, with no window to sample, ends SHORT; in a cycle that is no tick nothing of OW changes. -/
def Obligations.OwStartPulseStep : Prop :=
  ∀ s t : State, s.nextInput.rst = false → step s = .next t →
    (s.tick = false → s.ow.phase ≠ .idle → t.ow = s.ow) ∧
    (s.tick = true → s.ow.phase = .low →
      t.ow = if s.ow.tcnt = 1 then { s.ow with phase := .high, tcnt := max s.ow.highL.toNat 1 }
        else { s.ow with tcnt := s.ow.tcnt - 1 }) ∧
    (s.tick = true → s.ow.phase = .high →
      t.ow = if s.ow.tcnt ≠ 1 then { s.ow with tcnt := s.ow.tcnt - 1 }
        else if s.ow.maxwinL = 0 then { s.ow with phase := .idle, err := .short, valid := false }
        else { s.ow with phase := .sample, last := true, cnt := 0, tcnt := 0 })

/-- 40_onewire R105, R107, R108: a SAMPLE step in a tick cycle: an equal sample lengthens the window or, the 255th, aborts
it and finishes with a timeout; a different one ends the window, and the read with the last window. -/
def Obligations.OwSampleStep : Prop :=
  ∀ s t : State, s.ow.Legal s.build → s.nextInput.rst = false → step s = .next t → s.tick = true →
    s.ow.phase = .sample →
    (syncValue s.nextInput.owIn s.owSync = s.ow.last →
      if s.ow.cnt.toNat = 254 then
        t.ow = (owFinish s.ow.acc s.ow.nbits.toNat true { s.ow with timedOut := true }).ow
      else t.ow = { s.ow with cnt := s.ow.cnt + 1 }) ∧
    (syncValue s.nextInput.owIn s.owSync ≠ s.ow.last →
      ∃ o : Ow,
        o = { windowEnd s.ow.win.toNat s.ow.cnt.toNat s.ow with
          last := syncValue s.nextInput.owIn s.owSync
          cnt := 1
          win := s.ow.win + 1 } ∧
        o.win.toNat = s.ow.win.toNat + 1 ∧
        t.ow = if s.ow.win.toNat + 1 = s.ow.maxwinL.toNat then (owFinish o.acc o.nbits.toNat false o).ow else o)

/-- 40_onewire R106: window `i` carries a bit exactly when i >= 4, i is even and fewer than 40 bits are collected; the
bit is 1 exactly when the duration exceeds the threshold. -/
def Obligations.WindowEndShiftsOneBit : Prop :=
  ∀ (i d : Nat) (o : Ow),
    (4 ≤ i ∧ i % 2 = 0 ∧ o.nbits.toNat < 40 →
      ∃ (h : o.nbits.toNat / 8 < 5), ∃ b : Nat, b = (if d > o.thrL.toNat then 1 else 0) ∧
        windowEnd i d o =
          { o with
            acc := o.acc.set (o.nbits.toNat / 8) (BitVec.ofNat 8 ((2 * o.acc[o.nbits.toNat / 8].toNat + b) % 256)) h
            nbits := o.nbits + 1 }) ∧
    (¬(4 ≤ i ∧ i % 2 = 0 ∧ o.nbits.toNat < 40) → windowEnd i d o = o)

/-- 40_onewire R106, most significant first: bit j, from the duration of window 4 + 2j, lands in frame byte j div 8 at
bit position 7 - j mod 8. -/
def Obligations.FrameBitsLandMostSignificantFirst : Prop :=
  ∀ (o : Ow) (ds : List Nat), o.nbits = 0 → o.acc = #v[0, 0, 0, 0, 0] → ds.length = 40 →
    ∀ o', o' = (ds.zipIdx).foldl (fun u dj => windowEnd (4 + 2 * dj.2) dj.1 u) o →
      o'.nbits = 40 ∧
      ∀ j, (h : j < 40) → (o'.acc[j / 8]?.getD 0).getLsbD (7 - j % 8) = decide (ds.getD j 0 > o.thrL.toNat)

/-- 40_onewire R109 to R112: the verdict of a read, and the Reading of a valid frame. -/
def Obligations.OwFinishGivesTheVerdict : Prop :=
  ∀ (acc : Vector Byte 5) (nbits : Nat) (timedOut : Bool) (o : Ow),
    (owFinish acc nbits timedOut o).done = true ∧
    (owFinish acc nbits timedOut o).ow =
      if nbits < 40 then { o with phase := .idle, err := if timedOut then .timeout else .short, valid := false }
      else if acc[4].toNat ≠ (acc[0].toNat + acc[1].toNat + acc[2].toNat + acc[3].toNat) % 256 then
        { o with phase := .idle, err := .checksum, valid := false }
      else
        { o with
          phase := .idle
          err := .none
          valid := true
          hum := BitVec.ofNat 16
            (if 256 * acc[0].toNat + acc[1].toNat > 1000 then 10 * acc[0].toNat
             else 256 * acc[0].toNat + acc[1].toNat)
          temp := BitVec.ofInt 16
            ((if acc[2].getLsbD 7 then -1 else 1) *
              (if 256 * (acc[2] &&& 0x7F).toNat + acc[3].toNat > 1250 then (10 * acc[2].toNat : Int)
               else 256 * (acc[2] &&& 0x7F).toNat + acc[3].toNat)) }

/-- 40_onewire R110: every change of a single byte of a valid frame makes its checksum wrong. -/
def Obligations.SingleByteCorruptionIsCaught : Prop :=
  ∀ (acc : Vector Byte 5) (k : Nat) (b : Byte) (h : k < 5), checksumOk acc = true → b ≠ acc[k] →
    checksumOk (acc.set k b h) = false

/-- 40_onewire R113: the ranges of a Reading, without and with the fallbacks. -/
def Obligations.ReadingRanges : Prop :=
  ∀ acc : Vector Byte 5,
    (256 * acc[0].toNat + acc[1].toNat ≤ 1000 → hum10 acc ≤ 1000) ∧
    (256 * acc[0].toNat + acc[1].toNat > 1000 → 3 ≤ acc[0].toNat ∧ 30 ≤ hum10 acc ∧ hum10 acc ≤ 2550 ∧ hum10 acc % 10 = 0) ∧
    (256 * (acc[2].toNat % 128) + acc[3].toNat ≤ 1250 → -1250 ≤ temp10 acc ∧ temp10 acc ≤ 1250) ∧
    (256 * (acc[2].toNat % 128) + acc[3].toNat > 1250 → acc[2].toNat < 128 → 40 ≤ temp10 acc ∧ temp10 acc ≤ 1270) ∧
    (256 * (acc[2].toNat % 128) + acc[3].toNat > 1250 → 128 ≤ acc[2].toNat → -2550 ≤ temp10 acc ∧ temp10 acc ≤ -1320) ∧
    ((BitVec.ofInt 16 (temp10 acc)).toInt = temp10 acc)

/-- 40_onewire R115: from any legal state whose read has just been accepted, OW is idle again within the bound of the
rule, counted in ticks, whatever the line, the host and `rst` do. -/
def Obligations.OwReadEndsWithinItsBound : Prop :=
  ∀ s t : State, s.Legal → s.ow.phase = .idle → s.nextInput.rst = false → s.Issues .owRead → step s = .next t →
    ∃ k u, Sys2Proof.core.run k t = .next u ∧ u.ow.phase = .idle ∧
      k ≤ s.build.clkPerTick *
        (s.owCfg.startLowMs.toNat * s.build.ticksPerMs + 1 + max s.owCfg.startHigh.toNat 1 +
          255 * max s.owCfg.maxWin.toNat 1)

/-- 40_onewire R101, R116: only an accepted OW_READ makes an idle OW busy, and a read in progress does not see OW_CFG. -/
def Obligations.OwStartsOnlyOnOwReadAndLatchesItsConfiguration : Prop :=
  ∀ s t : State, step s = .next t →
    (s.ow.phase = .idle → t.ow.phase ≠ .idle → s.nextInput.rst = false ∧ s.Issues .owRead) ∧
    (s.ow.phase ≠ .idle → ∀ cfg t', step { s with owCfg := cfg } = .next t' → t'.ow = t.ow)

/-! ### VANE -/

/-- 42_vane R176: VANE_RES is the resistance of the divider formula, in 1/256 ohm, floored and saturated to 32 bits; over
the rationals, with the reference voltage cancelled. -/
def Obligations.VaneResistanceIsTheFlooredRational : Prop :=
  ∀ (b : Build) (c r : Nat), 0 < c → c ≤ b.adcFs.value →
    (vaneResistance b c r : ℤ) =
      min ⌊(256 : ℚ) * (((r : ℚ) * (b.adcFs.value : ℚ) / (c : ℚ)) - (r : ℚ))⌋ (2 ^ 32 - 1)

/-- 42_vane R171, R177: the entry chosen is the least one whose resistance VANE_R[k] in the build is nearest the exact
resistance, over the rationals. -/
def Obligations.NearestEntryIsTheLeastNearest : Prop :=
  ∀ (b : Build) (c r : Nat) (R : ℚ), 0 < c → c ≤ b.adcFs.value →
    R = (r : ℚ) * ((b.adcFs.value : ℚ) - (c : ℚ)) / (c : ℚ) →
    ∃ (k : Nat) (hk : k < 16), nearestEntry b c r = k ∧
      ∀ (j : Nat) (hj : j < 16),
        |R - ((b.vaneR[k]).toNat : ℚ)| ≤ |R - ((b.vaneR[j]).toNat : ℚ)| ∧
        (j < k → |R - ((b.vaneR[k]).toNat : ℚ)| < |R - ((b.vaneR[j]).toNat : ℚ)|)

/-- 10_state R43, 42_vane R178: the fields of VANE_OUT for each entry, and the sector of every angle. -/
def Obligations.VaneOutFieldsAndSectors : Prop :=
  (∀ k, k < 16 →
    (vaneOutWord k).extractLsb' 0 4 = BitVec.ofNat 4 k ∧
    ((vaneOutWord k).extractLsb' 4 2).toNat = (sector (225 * k)).code ∧
    (vaneOutWord k).extractLsb' 6 10 = 0 ∧
    ((vaneOutWord k).extractLsb' 16 12).toNat = 225 * k ∧
    (vaneOutWord k).extractLsb' 28 4 = 0) ∧
  ∀ a, a < 3600 →
    ((sector a).code = 0 ↔ 3150 ≤ a ∨ a < 450) ∧ ((sector a).code = 1 ↔ 450 ≤ a ∧ a < 1350) ∧
    ((sector a).code = 2 ↔ 1350 ≤ a ∧ a < 2250) ∧ ((sector a).code = 3 ↔ 2250 ≤ a ∧ a < 3150)

/-- 42_vane R174, R179: a busy VANE completes exactly when its countdown ends: over a run without reset it stays busy, its
results untouched, and in the cycle after its last it holds the verdict of the latched code and reference. -/
def Obligations.VaneCompletesAfterItsLatency : Prop :=
  ∀ (k : Nat) (s t : State), s.NoReset → s.vane.cnt ≠ 0 → Sys2Proof.core.run k s = .next t →
    (k < s.vane.cnt → t.vane = { s.vane with cnt := s.vane.cnt - k }) ∧
    (k = s.vane.cnt →
      t.vane =
        (if s.vane.cL.toNat = 0 ∨ s.vane.cL.toNat > s.build.adcFs.value then
          { s.vane with cnt := 0, degen := true, valid := false, res := 0, out := 0 }
        else
          { s.vane with
            cnt := 0
            res := BitVec.ofNat 32 (vaneResistance s.build s.vane.cL.toNat s.vane.rL.toNat)
            out := vaneOutWord (nearestEntry s.build s.vane.cL.toNat s.vane.rL.toNat)
            degen := false
            valid := true }) ∧
      t.irqStatus.getLsbD 1 = true)

/-! ### CMEAN -/

/-- 43_circular_mean R196, R199: a busy CMEAN completes exactly when its countdown ends, on the sums of the accept. -/
def Obligations.CmeanCompletesAfterItsLatency : Prop :=
  ∀ (k : Nat) (s t : State), s.NoReset → s.cmean.cnt ≠ 0 → Sys2Proof.core.run k s = .next t →
    (k < s.cmean.cnt → t.cmean = { s.cmean with cnt := s.cmean.cnt - k }) ∧
    (k = s.cmean.cnt →
      t.cmean =
        (if s.cmean.ssum = 0 ∧ s.cmean.csum = 0 then
          { s.cmean with cnt := 0, fault := true, valid := false, out := 0 }
        else
          { s.cmean with
            cnt := 0
            out := cmeanOutWord (meanDeci s.cmean.ssum.toInt s.cmean.csum.toInt)
            fault := false
            valid := true }) ∧
      t.irqStatus.getLsbD 2 = true)

/-- 43_circular_mean R190: every entry of the sine ROM is the sine of its angle in Q1.14, rounded to the nearest
integer, no entry within 0.00048 of a tie; and the two check sums. -/
def Obligations.SineRomIsTheRoundedSine : Prop :=
  (∀ i : Nat, i ≤ 900 → |(sinqT i : ℝ) - 16384 * Real.sin (i * Real.pi / 1800)| ≤ 1 / 2 - 48 / 100000) ∧
  ((List.range 901).map sinqT).sum = 9395517 ∧
  ((List.range 901).map fun i : Nat => ((i + 1 : Nat) : ℤ) * sinqT i).sum = 5395313851

/-- 43_circular_mean R192: sine and cosine of every angle follow the quarter-wave table. -/
def Obligations.SineAndCosineFollowTheQuarterTable : Prop :=
  ∀ i : Nat, i < 900 →
    sinq i = sinqT i ∧ sinq (900 + i) = sinqT (900 - i) ∧ sinq (1800 + i) = -sinqT i ∧
    sinq (2700 + i) = -sinqT (900 - i) ∧
    cosq i = sinq (900 + i) ∧ cosq (900 + i) = sinq (1800 + i) ∧ cosq (1800 + i) = sinq (2700 + i) ∧
    cosq (2700 + i) = sinq i

/-- 43_circular_mean R197, R198: the mean angle is the exact direction of the vector (C, S), in decidegrees in
[0, 3600), rounded by floor(theta + 1/2), with 3600 taken to 0. -/
def Obligations.MeanIsTheRoundedDirection : Prop :=
  ∀ (S C : ℤ) (theta : ℝ), ¬(S = 0 ∧ C = 0) →
    theta = (if Complex.arg ⟨(C : ℝ), (S : ℝ)⟩ < 0 then Complex.arg ⟨(C : ℝ), (S : ℝ)⟩ * 1800 / Real.pi + 3600
      else Complex.arg ⟨(C : ℝ), (S : ℝ)⟩ * 1800 / Real.pi) →
    (meanDeci S C : ℤ) = if ⌊theta + 1 / 2⌋ = 3600 then 0 else ⌊theta + 1 / 2⌋

/-- 43_circular_mean R200: the values of the mean on the axes and the diagonals, its independence of the length of the
vector, and its quadrant, which follows the signs of the sums. -/
def Obligations.MeanOnAxesAndDiagonals : Prop :=
  (∀ S C : ℤ,
    (0 < S → 0 < C → meanDeci S C ≤ 900) ∧
    (C < 0 → 900 ≤ meanDeci S C ∧ meanDeci S C ≤ 2700) ∧
    (S < 0 → 0 < C → 2700 ≤ meanDeci S C ∨ meanDeci S C = 0)) ∧
  ∀ k : ℤ, 0 < k →
    meanDeci 0 k = 0 ∧ meanDeci k 0 = 900 ∧ meanDeci 0 (-k) = 1800 ∧ meanDeci (-k) 0 = 2700 ∧
    meanDeci k k = 450 ∧ meanDeci k (-k) = 1350 ∧ meanDeci (-k) (-k) = 2250 ∧ meanDeci (-k) k = 3150 ∧
    ∀ S C : ℤ, meanDeci (k * S) (k * C) = meanDeci S C

/-! ### PC -/

/-- 41_pulse_counter R141 to R145, R147: every line after a cycle without reset: its synchroniser and previous level, its
timer, its count and its flags, with the edge of the cycle and a PC_TAKE of the cycle combined. -/
def Obligations.LineStep : Prop :=
  ∀ (s t : State) (n : Nat) (l : Line), s.build.wellFormed = true → s.nextInput.rst = false → step s = .next t →
    n < s.build.nlines → s.lines[n]? = some l →
    ∀ (cur qual accept : Bool) (tmr1 base : Nat),
      cur = syncValue (s.nextInput.pcIn.getLsbD n) l.sync →
      qual = (s.pcCtrl.en.getLsbD n && (if s.pcCtrl.edgeFall.getLsbD n then l.prev && !cur else !l.prev && cur)) →
      tmr1 = (if s.tick = true ∧ l.tmr > 0 then l.tmr - 1 else l.tmr) →
      accept = (qual && decide (tmr1 = 0)) →
      base = (if s.takesLine n then 0 else l.count.toNat) →
      ∃ l', t.lines[n]? = some l' ∧ l'.sync = syncShift (s.nextInput.pcIn.getLsbD n) l.sync ∧ l'.prev = cur ∧
        l'.tmr = (if accept then s.pcCtrl.dbMs.toNat * s.build.ticksPerMs else tmr1) ∧
        l'.count.toNat = (if accept then min (base + 1) (2 ^ 32 - 1) else base) ∧
        l'.ovf = (if s.takesLine n then false else l.ovf || (accept && decide (base = 2 ^ 32 - 1))) ∧
        l'.taken = (if s.takesLine n then l.count else l.taken) ∧
        l'.tovf = (if s.takesLine n then l.ovf else l.tovf)

/-- 41_pulse_counter R147: a PC_TAKE and an accepted edge in one cycle capture the count without the edge and leave 1;
across a run of k cycles without reset whose first count + k is below 2^32, so that it cannot saturate, the counts
captured by the PC_TAKEs of a line and its final count are its first count and the edges accepted: none is lost and none
counted twice. -/
def Obligations.NoEdgeIsLostOrCountedTwice : Prop :=
  (∀ (s t : State) (n : Nat), s.Legal → s.nextInput.rst = false → n < s.build.nlines → step s = .next t →
    s.takesLine n = true → s.acceptsEdge n = true →
    (t.line n).taken = (s.line n).count ∧ (t.line n).count = 1) ∧
  ∀ (k : Nat) (s u : State) (n : Nat), s.Legal → s.NoReset → n < s.build.nlines → Sys2Proof.core.run k s = .next u →
    (s.line n).count.toNat + k < 2 ^ 32 →
    runSum (fun v => if v.takesLine n then (v.line n).count.toNat else 0) k s + (u.line n).count.toNat =
      (s.line n).count.toNat + runSum (fun v => if v.acceptsEdge n then 1 else 0) k s

/-- 41_pulse_counter R150: an edge at most (D - 1)*CLK_PER_TICK cycles after an accepted one is ignored, D being the
debounce delay in ticks just loaded. -/
def Obligations.EdgesInsideTheDelayAreIgnored : Prop :=
  ∀ (k : Nat) (s t u : State) (n : Nat), s.Legal → s.NoReset → n < s.build.nlines → s.acceptsEdge n = true →
    step s = .next t → Sys2Proof.core.run k t = .next u →
    k + 1 ≤ (s.pcCtrl.dbMs.toNat * s.build.ticksPerMs - 1) * s.build.clkPerTick →
    u.acceptsEdge n = false ∧ (u.line n).tmr ≠ 0

/-! ### The whole machine -/

/-- 20_memory R73, 41_pulse_counter R151, 60_exceptions R244: the units share no mutable state: what a cycle makes of one
unit depends only on that unit, its configuration, the timebase and the inputs. -/
def Obligations.UnitsShareNoState : Prop :=
  ∀ s s' t t' : State, step s = .next t → step s' = .next t' → s.build = s'.build → s.nextInput = s'.nextInput →
    (s.presc = s'.presc → s.lines = s'.lines → s.pcCtrl = s'.pcCtrl → t.lines = t'.lines) ∧
    (s.presc = s'.presc → s.owSync = s'.owSync → s.owCfg = s'.owCfg → s.ow = s'.ow → t.ow = t'.ow) ∧
    (s.vaneRref = s'.vaneRref → s.vane = s'.vane → t.vane = t'.vane) ∧
    (s.cmean = s'.cmean → t.cmean = t'.cmean)

/-- 70_reset R268: in a quiescent state a cycle without reset and without a transaction changes nothing of OW, VANE,
CMEAN, the configuration and the status bits: it leaves only the timebase, the synchronisers and PC moving. -/
def Obligations.QuiescentStateIsStable : Prop :=
  ∀ s t : State, s.Quiescent → s.nextInput.rst = false → s.nextTransaction = .idle → step s = .next t →
    t.Quiescent ∧
    t = { s with
      inputs := s.inputs.tail
      cycle := s.cycle + 1
      out := t.out
      presc := t.presc
      owSync := t.owSync
      lines := t.lines }

/-- 10_state R28, R42, R43, R51, 93 I22: in a legal state every reserved bit of every register reads 0. -/
def Obligations.ReservedBitsReadZero : Prop :=
  ∀ s : State, s.Legal →
    busRead s 0x08 &&& 0xFFFCE080 = 0 ∧ busRead s 0x0C &&& 0xFFFFFFF8 = 0 ∧ busRead s 0x10 &&& 0xFFFFFFF8 = 0 ∧
    busRead s 0x14 &&& 0x80000000 = 0 ∧ busRead s 0x1C &&& 0xFF800000 = 0 ∧ busRead s 0x24 &&& 0xFF000000 = 0 ∧
    busRead s 0x2C &&& 0xF000FFC0 = 0 ∧ busRead s 0x30 &&& 0xFFFF0000 = 0 ∧ busRead s 0x3C &&& 0xFFFCF000 = 0 ∧
    busRead s 0x40 &&& 0xFF000000 = 0 ∧ busRead s 0x44 &&& 0xFF000000 = 0 ∧
    (∀ n, s.build.nlines ≤ n → n < 8 →
      (busRead s 0x40).getLsbD n = false ∧ (busRead s 0x40).getLsbD (8 + n) = false ∧
      (busRead s 0x44).getLsbD n = false ∧ (busRead s 0x44).getLsbD (8 + n) = false ∧
      (busRead s 0x44).getLsbD (16 + n) = false)

/-- The reset state of every build that exists is legal. -/
def Obligations.ResetStateIsLegal : Prop :=
  ∀ b : Build, b.wellFormed = true → (State.resetOf b).Legal

/-- Every step keeps the machine legal: counters in range, bits collected as the windows say, verdicts and results in
agreement, sums that cannot wrap, a build that never changes (log 1, log 8).  The invariant `Legal` is the model's reading of
the ranges and meanings of the rules its fields cite. -/
def Obligations.EveryStepKeepsTheMachineLegal : Prop :=
  ∀ s t : State, s.Legal → step s = .next t → t.Legal ∧ t.build = s.build
end

