-- ==== Sys2Proof/Laws/State.lean ====
section
/-! SUPPORT. One lemma per field per named update of the state, each true by rfl, so that no proof unfolds an update. -/

namespace Sys2Proof.Machine

/-! ### setBadcmd -/

@[simp] theorem setBadcmd_build (s : State) : (setBadcmd s).build = s.build := rfl
@[simp] theorem setBadcmd_inputs (s : State) : (setBadcmd s).inputs = s.inputs := rfl
@[simp] theorem setBadcmd_cycle (s : State) : (setBadcmd s).cycle = s.cycle := rfl
@[simp] theorem setBadcmd_out (s : State) : (setBadcmd s).out = s.out := rfl
@[simp] theorem setBadcmd_presc (s : State) : (setBadcmd s).presc = s.presc := rfl
@[simp] theorem setBadcmd_owSync (s : State) : (setBadcmd s).owSync = s.owSync := rfl
@[simp] theorem setBadcmd_irqEn (s : State) : (setBadcmd s).irqEn = s.irqEn := rfl
@[simp] theorem setBadcmd_irqStatus (s : State) : (setBadcmd s).irqStatus = s.irqStatus := rfl
@[simp] theorem setBadcmd_sticky (s : State) : (setBadcmd s).sticky = { s.sticky with badcmd := true } := rfl
@[simp] theorem setBadcmd_owCfg (s : State) : (setBadcmd s).owCfg = s.owCfg := rfl
@[simp] theorem setBadcmd_ow (s : State) : (setBadcmd s).ow = s.ow := rfl
@[simp] theorem setBadcmd_vaneRref (s : State) : (setBadcmd s).vaneRref = s.vaneRref := rfl
@[simp] theorem setBadcmd_vane (s : State) : (setBadcmd s).vane = s.vane := rfl
@[simp] theorem setBadcmd_cmean (s : State) : (setBadcmd s).cmean = s.cmean := rfl
@[simp] theorem setBadcmd_pcCtrl (s : State) : (setBadcmd s).pcCtrl = s.pcCtrl := rfl
@[simp] theorem setBadcmd_lines (s : State) : (setBadcmd s).lines = s.lines := rfl

/-! ### setCollide -/

@[simp] theorem setCollide_build (s : State) : (setCollide s).build = s.build := rfl
@[simp] theorem setCollide_inputs (s : State) : (setCollide s).inputs = s.inputs := rfl
@[simp] theorem setCollide_cycle (s : State) : (setCollide s).cycle = s.cycle := rfl
@[simp] theorem setCollide_out (s : State) : (setCollide s).out = s.out := rfl
@[simp] theorem setCollide_presc (s : State) : (setCollide s).presc = s.presc := rfl
@[simp] theorem setCollide_owSync (s : State) : (setCollide s).owSync = s.owSync := rfl
@[simp] theorem setCollide_irqEn (s : State) : (setCollide s).irqEn = s.irqEn := rfl
@[simp] theorem setCollide_irqStatus (s : State) : (setCollide s).irqStatus = s.irqStatus := rfl
@[simp] theorem setCollide_sticky (s : State) : (setCollide s).sticky = { s.sticky with collide := true } := rfl
@[simp] theorem setCollide_owCfg (s : State) : (setCollide s).owCfg = s.owCfg := rfl
@[simp] theorem setCollide_ow (s : State) : (setCollide s).ow = s.ow := rfl
@[simp] theorem setCollide_vaneRref (s : State) : (setCollide s).vaneRref = s.vaneRref := rfl
@[simp] theorem setCollide_vane (s : State) : (setCollide s).vane = s.vane := rfl
@[simp] theorem setCollide_cmean (s : State) : (setCollide s).cmean = s.cmean := rfl
@[simp] theorem setCollide_pcCtrl (s : State) : (setCollide s).pcCtrl = s.pcCtrl := rfl
@[simp] theorem setCollide_lines (s : State) : (setCollide s).lines = s.lines := rfl

/-! ### setCmeanRange -/

@[simp] theorem setCmeanRange_build (s : State) : (setCmeanRange s).build = s.build := rfl
@[simp] theorem setCmeanRange_inputs (s : State) : (setCmeanRange s).inputs = s.inputs := rfl
@[simp] theorem setCmeanRange_cycle (s : State) : (setCmeanRange s).cycle = s.cycle := rfl
@[simp] theorem setCmeanRange_out (s : State) : (setCmeanRange s).out = s.out := rfl
@[simp] theorem setCmeanRange_presc (s : State) : (setCmeanRange s).presc = s.presc := rfl
@[simp] theorem setCmeanRange_owSync (s : State) : (setCmeanRange s).owSync = s.owSync := rfl
@[simp] theorem setCmeanRange_irqEn (s : State) : (setCmeanRange s).irqEn = s.irqEn := rfl
@[simp] theorem setCmeanRange_irqStatus (s : State) : (setCmeanRange s).irqStatus = s.irqStatus := rfl
@[simp] theorem setCmeanRange_sticky (s : State) : (setCmeanRange s).sticky = { s.sticky with cmeanRange := true } := rfl
@[simp] theorem setCmeanRange_owCfg (s : State) : (setCmeanRange s).owCfg = s.owCfg := rfl
@[simp] theorem setCmeanRange_ow (s : State) : (setCmeanRange s).ow = s.ow := rfl
@[simp] theorem setCmeanRange_vaneRref (s : State) : (setCmeanRange s).vaneRref = s.vaneRref := rfl
@[simp] theorem setCmeanRange_vane (s : State) : (setCmeanRange s).vane = s.vane := rfl
@[simp] theorem setCmeanRange_cmean (s : State) : (setCmeanRange s).cmean = s.cmean := rfl
@[simp] theorem setCmeanRange_pcCtrl (s : State) : (setCmeanRange s).pcCtrl = s.pcCtrl := rfl
@[simp] theorem setCmeanRange_lines (s : State) : (setCmeanRange s).lines = s.lines := rfl

/-! ### setCmeanOvf -/

@[simp] theorem setCmeanOvf_build (s : State) : (setCmeanOvf s).build = s.build := rfl
@[simp] theorem setCmeanOvf_inputs (s : State) : (setCmeanOvf s).inputs = s.inputs := rfl
@[simp] theorem setCmeanOvf_cycle (s : State) : (setCmeanOvf s).cycle = s.cycle := rfl
@[simp] theorem setCmeanOvf_out (s : State) : (setCmeanOvf s).out = s.out := rfl
@[simp] theorem setCmeanOvf_presc (s : State) : (setCmeanOvf s).presc = s.presc := rfl
@[simp] theorem setCmeanOvf_owSync (s : State) : (setCmeanOvf s).owSync = s.owSync := rfl
@[simp] theorem setCmeanOvf_irqEn (s : State) : (setCmeanOvf s).irqEn = s.irqEn := rfl
@[simp] theorem setCmeanOvf_irqStatus (s : State) : (setCmeanOvf s).irqStatus = s.irqStatus := rfl
@[simp] theorem setCmeanOvf_sticky (s : State) : (setCmeanOvf s).sticky = { s.sticky with cmeanOvf := true } := rfl
@[simp] theorem setCmeanOvf_owCfg (s : State) : (setCmeanOvf s).owCfg = s.owCfg := rfl
@[simp] theorem setCmeanOvf_ow (s : State) : (setCmeanOvf s).ow = s.ow := rfl
@[simp] theorem setCmeanOvf_vaneRref (s : State) : (setCmeanOvf s).vaneRref = s.vaneRref := rfl
@[simp] theorem setCmeanOvf_vane (s : State) : (setCmeanOvf s).vane = s.vane := rfl
@[simp] theorem setCmeanOvf_cmean (s : State) : (setCmeanOvf s).cmean = s.cmean := rfl
@[simp] theorem setCmeanOvf_pcCtrl (s : State) : (setCmeanOvf s).pcCtrl = s.pcCtrl := rfl
@[simp] theorem setCmeanOvf_lines (s : State) : (setCmeanOvf s).lines = s.lines := rfl

/-! ### merge -/

@[simp] theorem merge_build (i : Input) (s t : State) : (merge i s t).build = t.build := rfl
@[simp] theorem merge_inputs (i : Input) (s t : State) : (merge i s t).inputs = s.inputs.tail := rfl
@[simp] theorem merge_cycle (i : Input) (s t : State) : (merge i s t).cycle = s.cycle + 1 := rfl
@[simp] theorem merge_out (i : Input) (s t : State) : (merge i s t).out = outputs i s := rfl
@[simp] theorem merge_presc (i : Input) (s t : State) : (merge i s t).presc = nextPresc s := rfl
@[simp] theorem merge_owSync (i : Input) (s t : State) : (merge i s t).owSync = syncShift i.owIn s.owSync := rfl
@[simp] theorem merge_irqEn (i : Input) (s t : State) : (merge i s t).irqEn = t.irqEn := rfl
@[simp] theorem merge_irqStatus (i : Input) (s t : State) : (merge i s t).irqStatus = irqAfter i s t := rfl
@[simp] theorem merge_sticky (i : Input) (s t : State) : (merge i s t).sticky = t.sticky := rfl
@[simp] theorem merge_owCfg (i : Input) (s t : State) : (merge i s t).owCfg = t.owCfg := rfl
@[simp] theorem merge_ow (i : Input) (s t : State) : (merge i s t).ow = (owAfter i s t).ow := rfl
@[simp] theorem merge_vaneRref (i : Input) (s t : State) : (merge i s t).vaneRref = t.vaneRref := rfl
@[simp] theorem merge_vane (i : Input) (s t : State) : (merge i s t).vane = vaneAfter s t := rfl
@[simp] theorem merge_cmean (i : Input) (s t : State) : (merge i s t).cmean = cmeanAfter s t := rfl
@[simp] theorem merge_pcCtrl (i : Input) (s t : State) : (merge i s t).pcCtrl = t.pcCtrl := rfl
@[simp] theorem merge_lines (i : Input) (s t : State) : (merge i s t).lines = linesUpdate s.build s.pcCtrl s.tick i.pcIn 0 t.lines := rfl

/-! ### resetOf -/

@[simp] theorem resetOf_build (b : Build) : (State.resetOf b).build = b := rfl
@[simp] theorem resetOf_inputs (b : Build) : (State.resetOf b).inputs = [] := rfl
@[simp] theorem resetOf_cycle (b : Build) : (State.resetOf b).cycle = 0 := rfl
@[simp] theorem resetOf_out (b : Build) : (State.resetOf b).out = Outputs.inReset := rfl
@[simp] theorem resetOf_presc (b : Build) : (State.resetOf b).presc = 0 := rfl
@[simp] theorem resetOf_owSync (b : Build) : (State.resetOf b).owSync = List.replicate b.syncStages true := rfl
@[simp] theorem resetOf_irqEn (b : Build) : (State.resetOf b).irqEn = 0 := rfl
@[simp] theorem resetOf_irqStatus (b : Build) : (State.resetOf b).irqStatus = 0 := rfl
@[simp] theorem resetOf_sticky (b : Build) : (State.resetOf b).sticky = Sticky.reset := rfl
@[simp] theorem resetOf_owCfg (b : Build) : (State.resetOf b).owCfg = OwCfg.reset := rfl
@[simp] theorem resetOf_ow (b : Build) : (State.resetOf b).ow = Ow.reset := rfl
@[simp] theorem resetOf_vaneRref (b : Build) : (State.resetOf b).vaneRref = 0 := rfl
@[simp] theorem resetOf_vane (b : Build) : (State.resetOf b).vane = Vane.reset := rfl
@[simp] theorem resetOf_cmean (b : Build) : (State.resetOf b).cmean = Cmean.reset := rfl
@[simp] theorem resetOf_pcCtrl (b : Build) : (State.resetOf b).pcCtrl = PcCtrl.reset := rfl
@[simp] theorem resetOf_lines (b : Build) : (State.resetOf b).lines = List.replicate b.nlines (Line.reset b.syncStages) := rfl

/-! ### afterReset -/

@[simp] theorem afterReset_build (s : State) : (afterReset s).build = s.build := rfl
@[simp] theorem afterReset_inputs (s : State) : (afterReset s).inputs = s.inputs.tail := rfl
@[simp] theorem afterReset_cycle (s : State) : (afterReset s).cycle = s.cycle + 1 := rfl
@[simp] theorem afterReset_out (s : State) : (afterReset s).out = Outputs.inReset := rfl
@[simp] theorem afterReset_presc (s : State) : (afterReset s).presc = 0 := rfl
@[simp] theorem afterReset_owSync (s : State) : (afterReset s).owSync = List.replicate s.build.syncStages true := rfl
@[simp] theorem afterReset_irqEn (s : State) : (afterReset s).irqEn = 0 := rfl
@[simp] theorem afterReset_irqStatus (s : State) : (afterReset s).irqStatus = 0 := rfl
@[simp] theorem afterReset_sticky (s : State) : (afterReset s).sticky = Sticky.reset := rfl
@[simp] theorem afterReset_owCfg (s : State) : (afterReset s).owCfg = OwCfg.reset := rfl
@[simp] theorem afterReset_ow (s : State) : (afterReset s).ow = Ow.reset := rfl
@[simp] theorem afterReset_vaneRref (s : State) : (afterReset s).vaneRref = 0 := rfl
@[simp] theorem afterReset_vane (s : State) : (afterReset s).vane = Vane.reset := rfl
@[simp] theorem afterReset_cmean (s : State) : (afterReset s).cmean = Cmean.reset := rfl
@[simp] theorem afterReset_pcCtrl (s : State) : (afterReset s).pcCtrl = PcCtrl.reset := rfl
@[simp] theorem afterReset_lines (s : State) : (afterReset s).lines = List.replicate s.build.nlines (Line.reset s.build.syncStages) := rfl

/-! ### presenting -/

@[simp] theorem presenting_build (t : Transaction) (s : State) : (presenting t s).build = s.build := rfl
@[simp] theorem presenting_cycle (t : Transaction) (s : State) : (presenting t s).cycle = s.cycle := rfl
@[simp] theorem presenting_out (t : Transaction) (s : State) : (presenting t s).out = s.out := rfl
@[simp] theorem presenting_presc (t : Transaction) (s : State) : (presenting t s).presc = s.presc := rfl
@[simp] theorem presenting_owSync (t : Transaction) (s : State) : (presenting t s).owSync = s.owSync := rfl
@[simp] theorem presenting_irqEn (t : Transaction) (s : State) : (presenting t s).irqEn = s.irqEn := rfl
@[simp] theorem presenting_irqStatus (t : Transaction) (s : State) : (presenting t s).irqStatus = s.irqStatus := rfl
@[simp] theorem presenting_sticky (t : Transaction) (s : State) : (presenting t s).sticky = s.sticky := rfl
@[simp] theorem presenting_owCfg (t : Transaction) (s : State) : (presenting t s).owCfg = s.owCfg := rfl
@[simp] theorem presenting_ow (t : Transaction) (s : State) : (presenting t s).ow = s.ow := rfl
@[simp] theorem presenting_vaneRref (t : Transaction) (s : State) : (presenting t s).vaneRref = s.vaneRref := rfl
@[simp] theorem presenting_vane (t : Transaction) (s : State) : (presenting t s).vane = s.vane := rfl
@[simp] theorem presenting_cmean (t : Transaction) (s : State) : (presenting t s).cmean = s.cmean := rfl
@[simp] theorem presenting_pcCtrl (t : Transaction) (s : State) : (presenting t s).pcCtrl = s.pcCtrl := rfl
@[simp] theorem presenting_lines (t : Transaction) (s : State) : (presenting t s).lines = s.lines := rfl

theorem presenting_inputs (t : Transaction) (s : State) :
    (presenting t s).inputs =
      ({ s.inputs.headD Input.quiet with rst := false }).withTransaction t :: s.inputs.tail := rfl

/-! ### Lines -/

@[simp] theorem takeLine_sync (l : Line) : (takeLine l).sync = l.sync := rfl
@[simp] theorem takeLine_prev (l : Line) : (takeLine l).prev = l.prev := rfl
@[simp] theorem takeLine_tmr (l : Line) : (takeLine l).tmr = l.tmr := rfl
@[simp] theorem takeLine_count (l : Line) : (takeLine l).count = 0 := rfl
@[simp] theorem takeLine_taken (l : Line) : (takeLine l).taken = l.count := rfl
@[simp] theorem takeLine_ovf (l : Line) : (takeLine l).ovf = false := rfl
@[simp] theorem takeLine_tovf (l : Line) : (takeLine l).tovf = l.ovf := rfl

section
variable (b : Build) (c : PcCtrl) (tick : Bool) (n : Nat) (pin : Bool) (l : Line)

@[simp] theorem lineUpdate_sync : (lineUpdate b c tick n pin l).sync = syncShift pin l.sync := rfl
@[simp] theorem lineUpdate_prev : (lineUpdate b c tick n pin l).prev = syncValue pin l.sync := rfl
@[simp] theorem lineUpdate_tmr : (lineUpdate b c tick n pin l).tmr =
    if edgeAccepted c tick n pin l then c.dbMs.toNat * b.ticksPerMs else debounceStep tick l.tmr := rfl
@[simp] theorem lineUpdate_count : (lineUpdate b c tick n pin l).count =
    if edgeAccepted c tick n pin l then BitVec.ofNat 32 (satNat 32 (l.count.toNat + 1)) else l.count := rfl
@[simp] theorem lineUpdate_taken : (lineUpdate b c tick n pin l).taken = l.taken := rfl
@[simp] theorem lineUpdate_ovf : (lineUpdate b c tick n pin l).ovf =
    (l.ovf || (edgeAccepted c tick n pin l && decide (l.count.toNat = 2 ^ 32 - 1))) := rfl
@[simp] theorem lineUpdate_tovf : (lineUpdate b c tick n pin l).tovf = l.tovf := rfl

end

end Sys2Proof.Machine
end

