-- ==== Sys2Proof/Laws/Cycle.lean ====
section
/-! SUPPORT. What the shared operations can do, said once: the host's transaction, one step, the synchronisers, the lines
of a cycle, and the completion interrupts. -/

namespace Sys2Proof.Machine

/-! ### The host's transaction and the step -/

/-- A register index names CMD exactly when it is 1. -/
theorem regOfIndex_eq_cmd_iff (b : Build) (r : Nat) : regOfIndex b r = some .cmd ↔ r = 1 := by
  unfold regOfIndex
  split <;> simp_all
  split_ifs <;> simp

/-- What a host's transaction leaves, when it leaves a next state: nothing of it, a register write, a command's effect, or
BADCMD. -/
theorem hostEffect_cases {tr : Transaction} {s t : State} (h : hostEffect tr s = .next t) :
    t = s ∨
    (∃ off v r, tr = .write off v ∧ regOf s.build off = some r ∧ r ≠ .cmd ∧ t = regWrite r v s) ∨
    (∃ off v i, tr = .write off v ∧ off.toNat / 4 = 1 ∧ decode v = .command i ∧ exec i s = .next t) ∨
    (∃ off v o, tr = .write off v ∧ off.toNat / 4 = 1 ∧ decode v = .reserved o ∧ t = setBadcmd s) := by
  unfold hostEffect at h
  split at h
  · cases h; exact .inl rfl
  · cases h; exact .inl rfl
  · rename_i off v
    split at h
    · rename_i hr
      have hoff : off.toNat / 4 = 1 := (regOfIndex_eq_cmd_iff _ _).1 hr
      unfold issue at h
      split at h
      · exact .inr (.inr (.inl ⟨off, v, _, rfl, hoff, ‹_›, h⟩))
      · unfold reservedCommand at h
        cases h
        exact .inr (.inr (.inr ⟨off, v, _, rfl, hoff, ‹_›, rfl⟩))
    · rename_i r hne hr
      cases h
      exact .inr (.inl ⟨off, v, r, rfl, hr, hne, rfl⟩)
    · cases h; exact .inl rfl

/-- The two ways a step reaches a next state: the reset cycle, or the host's transaction merged with the autonomous
updates. -/
theorem step_cases {s t : State} (h : step s = .next t) :
    (s.nextInput.rst = true ∧ t = afterReset s) ∨
    (s.nextInput.rst = false ∧ ∃ u, hostEffect s.nextInput.transaction s = .next u ∧ t = merge s.nextInput s u) := by
  unfold step at h
  split at h
  · rename_i hr; cases h; exact .inl ⟨hr, rfl⟩
  · rename_i hr
    refine .inr ⟨by simpa using hr, ?_⟩
    unfold runCycle at h
    split at h
    · cases h; exact ⟨_, ‹_›, rfl⟩
    · cases h
    · cases h

/-- The host's transaction always leaves a next state: no command faults or is refused. -/
theorem hostEffect_total (tr : Transaction) (s : State) : ∃ t, hostEffect tr s = .next t := by
  have hexec : ∀ i, ∃ t, exec i s = .next t := fun i => by cases i <;> exact ⟨_, rfl⟩
  unfold hostEffect
  split
  · exact ⟨_, rfl⟩
  · exact ⟨_, rfl⟩
  · split
    · unfold issue
      split
      · exact hexec _
      · exact ⟨_, rfl⟩
    · exact ⟨_, rfl⟩
    · exact ⟨_, rfl⟩

/-- The fields no host transaction touches. -/
theorem regWrite_frame (r : Reg) (v : Word) (s : State) :
    (regWrite r v s).build = s.build ∧ (regWrite r v s).presc = s.presc ∧ (regWrite r v s).owSync = s.owSync ∧
    (regWrite r v s).ow = s.ow ∧ (regWrite r v s).vane = s.vane ∧ (regWrite r v s).cmean = s.cmean ∧
    (regWrite r v s).lines = s.lines := by
  cases r <;> exact ⟨rfl, rfl, rfl, rfl, rfl, rfl, rfl⟩

/-! ### Inputs -/

@[simp] theorem freeInput_rst (c : Nat) : (freeInput c).rst = false := rfl

@[simp] theorem nextInput_cons (s : State) (i : Input) (is : List Input) :
    State.nextInput { s with inputs := i :: is } = i := rfl

@[simp] theorem withTransaction_rst (i : Input) (t : Transaction) : (i.withTransaction t).rst = i.rst := by
  cases t <;> rfl

@[simp] theorem withTransaction_owIn (i : Input) (t : Transaction) : (i.withTransaction t).owIn = i.owIn := by
  cases t <;> rfl

@[simp] theorem withTransaction_pcIn (i : Input) (t : Transaction) : (i.withTransaction t).pcIn = i.pcIn := by
  cases t <;> rfl

@[simp] theorem transaction_withTransaction (i : Input) (t : Transaction) :
    (i.withTransaction t).transaction = t := by
  cases t <;> simp [Input.withTransaction, Input.transaction]

/-! ### Synchronisers and lines -/

@[simp] theorem syncShift_length (pin : Bool) (flops : List Bool) : (syncShift pin flops).length = flops.length := by
  simp [syncShift]

@[simp] theorem linesUpdate_length (b : Build) (c : PcCtrl) (tick : Bool) (pins : Byte) (n : Nat) (ls : List Line) :
    (linesUpdate b c tick pins n ls).length = ls.length := by
  induction ls generalizing n with
  | nil => rfl
  | cons l ls ih => simp [linesUpdate, ih]

/-- Line `m` of a list numbered from `n` is updated with its own number and its own pin. -/
theorem linesUpdate_getElem? (b : Build) (c : PcCtrl) (tick : Bool) (pins : Byte) (n m : Nat) (ls : List Line) :
    (linesUpdate b c tick pins n ls)[m]? = ls[m]?.map (lineUpdate b c tick (n + m) (pins.getLsbD (n + m))) := by
  induction ls generalizing n m with
  | nil => simp [linesUpdate]
  | cons l ls ih =>
    cases m with
    | zero => simp [linesUpdate]
    | succ m => simp [linesUpdate, ih, Nat.add_comm, Nat.add_left_comm]

/-! ### Completion interrupts -/

@[simp] theorem irqWith_false (src : IrqSource) (v : BitVec 3) : irqWith false src v = v := rfl

@[simp] theorem irqWith_true (src : IrqSource) (v : BitVec 3) : irqWith true src v = v ||| irqMask src := rfl

/-- An IRQ_STATUS bit after a possible completion. -/
theorem irqWith_getLsbD (done : Bool) (src : IrqSource) (v : BitVec 3) (k : Nat) :
    (irqWith done src v).getLsbD k = (v.getLsbD k || (done && (irqMask src).getLsbD k)) := by
  cases done <;> simp

end Sys2Proof.Machine
end

