-- ==== Sys2Proof/Laws/Onewire.lean ====
section
/-! SUPPORT. What the OW operations can do, said once (40_onewire R102 to R109). -/

namespace Sys2Proof.Machine

/-- `finish` ends the read and touches only the phase, the verdict and the Reading. -/
theorem owFinish_frame (acc : Vector Byte 5) (nbits : Nat) (timedOut : Bool) (o : Ow) :
    (owFinish acc nbits timedOut o).done = true ∧ (owFinish acc nbits timedOut o).ow.phase = .idle ∧
    (owFinish acc nbits timedOut o).ow.acc = o.acc ∧ (owFinish acc nbits timedOut o).ow.nbits = o.nbits ∧
    (owFinish acc nbits timedOut o).ow.win = o.win ∧ (owFinish acc nbits timedOut o).ow.maxwinL = o.maxwinL ∧
    (owFinish acc nbits timedOut o).ow.cnt = o.cnt ∧ (owFinish acc nbits timedOut o).ow.last = o.last ∧
    (owFinish acc nbits timedOut o).ow.tcnt = o.tcnt ∧ (owFinish acc nbits timedOut o).ow.timedOut = o.timedOut := by
  unfold owFinish
  dsimp only
  split_ifs <;> exact ⟨rfl, rfl, rfl, rfl, rfl, rfl, rfl, rfl, rfl, rfl⟩

/-- The verdict of `finish`, one of the four of STATUS.OW_ERR (40_onewire R109). -/
theorem owFinish_verdict (acc : Vector Byte 5) (nbits : Nat) (timedOut : Bool) (o : Ow) :
    (nbits < 40 ∧ (owFinish acc nbits timedOut o).ow.valid = false ∧
      (owFinish acc nbits timedOut o).ow.err = if timedOut then .timeout else .short) ∨
    (40 ≤ nbits ∧ checksumOk acc = false ∧ (owFinish acc nbits timedOut o).ow.valid = false ∧
      (owFinish acc nbits timedOut o).ow.err = .checksum) ∨
    (40 ≤ nbits ∧ checksumOk acc = true ∧ (owFinish acc nbits timedOut o).ow.valid = true ∧
      (owFinish acc nbits timedOut o).ow.err = .none ∧
      (owFinish acc nbits timedOut o).ow.hum = BitVec.ofNat 16 (hum10 acc) ∧
      (owFinish acc nbits timedOut o).ow.temp = BitVec.ofInt 16 (temp10 acc)) := by
  by_cases h : nbits < 40
  · exact .inl ⟨h, by simp [owFinish, h], by simp [owFinish, h]⟩
  · cases hc : checksumOk acc
    · exact .inr (.inl ⟨by omega, rfl, by simp [owFinish, h, hc], by simp [owFinish, h, hc]⟩)
    · exact .inr (.inr ⟨by omega, rfl, by simp [owFinish, h, hc], by simp [owFinish, h, hc],
        by simp [owFinish, h, hc], by simp [owFinish, h, hc]⟩)

/-- `window_end` touches only the accumulator and the bit count. -/
theorem windowEnd_frame (i d : Nat) (o : Ow) :
    (windowEnd i d o).phase = o.phase ∧ (windowEnd i d o).win = o.win ∧ (windowEnd i d o).maxwinL = o.maxwinL ∧
    (windowEnd i d o).thrL = o.thrL ∧ (windowEnd i d o).highL = o.highL ∧ (windowEnd i d o).cnt = o.cnt ∧
    (windowEnd i d o).last = o.last ∧ (windowEnd i d o).timedOut = o.timedOut ∧ (windowEnd i d o).valid = o.valid ∧
    (windowEnd i d o).err = o.err ∧ (windowEnd i d o).hum = o.hum ∧ (windowEnd i d o).temp = o.temp ∧
    (windowEnd i d o).tcnt = o.tcnt := by
  unfold windowEnd
  dsimp only
  split_ifs <;> exact ⟨rfl, rfl, rfl, rfl, rfl, rfl, rfl, rfl, rfl, rfl, rfl, rfl, rfl⟩

/-- The bit count after a window (40_onewire R106). -/
theorem windowEnd_nbits (i d : Nat) (o : Ow) :
    (windowEnd i d o).nbits.toNat = if isDataWindow i o.nbits.toNat then o.nbits.toNat + 1 else o.nbits.toNat := by
  unfold windowEnd
  dsimp only
  split_ifs with h
  · have hlt : o.nbits.toNat < 40 := by
      simp [isDataWindow] at h; exact h.2
    simp only [BitVec.toNat_ofNat]
    omega
  · rfl

/-- A busy OW in one cycle: unchanged outside a tick, else the step of its phase. -/
theorem owUpdate_cases (tick level : Bool) (o : Ow) :
    (tick = false ∧ owUpdate tick level o = ⟨o, false⟩) ∨
    (tick = true ∧ o.phase = .idle ∧ owUpdate tick level o = ⟨o, false⟩) ∨
    (tick = true ∧ o.phase = .low ∧ owUpdate tick level o = ⟨owLowTick o, false⟩) ∨
    (tick = true ∧ o.phase = .high ∧ owUpdate tick level o = owHighTick o) ∨
    (tick = true ∧ o.phase = .sample ∧ owUpdate tick level o = owSampleTick level o) := by
  cases tick
  · exact .inl ⟨rfl, rfl⟩
  · cases h : o.phase <;> simp [owUpdate, h]

end Sys2Proof.Machine
end

