-- ==== Sys2Proof/Laws/PerInstr.lean ====
section
/-! SUPPORT. The family EncodedWord, one lemma per command: the word the assembler emits holds the opcode of the command
in OPC, its operands in LINE and ARG, and 0 in every ignored bit (30_encoding R80, R82, R85, R89). -/

namespace Sys2Proof.Laws.EncodedWord

open Sys2Proof Sys2Proof.Machine

/-- LINE of a command's word: the operand of PC_TAKE, else 0. -/
def lineOperand : Instr → Nat
  | .pcTake n => n
  | .nop | .owRead | .vaneResolve _ | .cmeanClear | .cmeanAdd _ | .cmeanCompute => 0

/-- ARG of a command's word: the operand of VANE_RESOLVE and CMEAN_ADD, else 0. -/
def argOperand : Instr → Nat
  | .vaneResolve c => c
  | .cmeanAdd a => a
  | .nop | .owRead | .cmeanClear | .cmeanCompute | .pcTake _ => 0

/-- The fields of the word of a well-formed command, as one number with nothing left over. -/
def Statement (i : Instr) : Prop :=
  i.wellFormed = true →
    (encode i).toNat = opcodeOf i + 2 ^ 8 * lineOperand i + 2 ^ 16 * argOperand i ∧
    lineOperand i < 2 ^ 4 ∧ argOperand i < 2 ^ 12 ∧ opcodeOf i < 2 ^ 8

theorem nop : Statement .nop := fun _ => by decide

theorem owRead : Statement .owRead := fun _ => by decide

theorem vaneResolve (c : Nat) : Statement (.vaneResolve c) := fun h => by
  simp only [Instr.wellFormed, decide_eq_true_eq] at h
  simp only [encode, commandWord, opcodeOf, lineOperand, argOperand, BitVec.toNat_ofNat]
  omega

theorem cmeanClear : Statement .cmeanClear := fun _ => by decide

theorem cmeanAdd (a : Nat) : Statement (.cmeanAdd a) := fun h => by
  simp only [Instr.wellFormed, decide_eq_true_eq] at h
  simp only [encode, commandWord, opcodeOf, lineOperand, argOperand, BitVec.toNat_ofNat]
  omega

theorem cmeanCompute : Statement .cmeanCompute := fun _ => by decide

theorem pcTake (n : Nat) : Statement (.pcTake n) := fun h => by
  simp only [Instr.wellFormed, decide_eq_true_eq] at h
  simp only [encode, commandWord, opcodeOf, lineOperand, argOperand, BitVec.toNat_ofNat]
  omega

end Sys2Proof.Laws.EncodedWord
end

