-- ==== Sys2Proof/Laws/Run.lean ====
section
/-! SUPPORT. Runs: the host's `Core.run` in terms of `step`, and what holds along a run without reset. -/

namespace Sys2Proof.Machine

@[simp] theorem run_zero (s : State) : Sys2Proof.core.run 0 s = .next s := rfl

/-- A run of `k + 1` steps of any machine is a step and a run of `k` steps. -/
theorem core_run_succ (M : Host.Core) {k : Nat} {s u : M.State} :
    M.run (k + 1) s = .next u ↔ ∃ t, M.step s = .next t ∧ M.run k t = .next u := by
  simp only [Host.Core.run]
  cases M.step s <;> simp

/-- A run of `k + 1` cycles is a step and a run of `k` cycles. -/
theorem run_succ {k : Nat} {s u : State} :
    Sys2Proof.core.run (k + 1) s = .next u ↔ ∃ t, step s = .next t ∧ Sys2Proof.core.run k t = .next u :=
  core_run_succ Sys2Proof.core

/-- A run of `k + 1` cycles is a run of `k` cycles and a step. -/
theorem run_succ_last {k : Nat} {s u : State} :
    Sys2Proof.core.run (k + 1) s = .next u ↔ ∃ t, Sys2Proof.core.run k s = .next t ∧ step t = .next u := by
  induction k generalizing s with
  | zero =>
    rw [run_succ]
    constructor
    · rintro ⟨t, ht, hu⟩; cases hu; exact ⟨s, rfl, ht⟩
    · rintro ⟨t, ht, hu⟩; cases ht; exact ⟨u, hu, rfl⟩
  | succ k ih =>
    rw [run_succ]
    constructor
    · rintro ⟨t, ht, hu⟩
      obtain ⟨v, hv, hvu⟩ := ih.1 hu
      exact ⟨v, run_succ.2 ⟨t, ht, hv⟩, hvu⟩
    · rintro ⟨v, hv, hvu⟩
      obtain ⟨t, ht, htv⟩ := run_succ.1 hv
      exact ⟨t, ht, ih.2 ⟨v, htv, hvu⟩⟩

/-- An invariant of every step holds along every run. -/
theorem run_keeps (P : State → Prop) (h : ∀ s t, P s → step s = .next t → P t) (k : Nat) {s t : State} (hs : P s)
    (ht : Sys2Proof.core.run k s = .next t) : P t := by
  induction k generalizing s with
  | zero => cases ht; exact hs
  | succ k ih =>
    obtain ⟨u, hu, hut⟩ := run_succ.1 ht
    exact ih (h s u hs hu) hut

/-- In a state with no listed reset the next cycle holds `rst` low. -/
theorem nextInput_rst_of_noReset {s : State} (h : s.NoReset) : s.nextInput.rst = false := by
  unfold State.nextInput
  unfold State.NoReset at h
  cases hi : s.inputs with
  | nil => rfl
  | cons i is => exact h i (by simp [hi])

/-- A step leaves the rest of the listed inputs, and the build, in place. -/
theorem step_inputs {s t : State} (h : step s = .next t) : t.inputs = s.inputs.tail := by
  rcases step_cases h with ⟨-, rfl⟩ | ⟨-, u, -, rfl⟩ <;> rfl

/-- A step keeps a state free of listed resets. -/
theorem noReset_step (s t : State) (h : s.NoReset) (ht : step s = .next t) : t.NoReset := by
  intro i hi
  rw [step_inputs ht] at hi
  exact h i (List.mem_of_mem_tail hi)

/-- One term of a sum along a run. -/
theorem runSum_succ (f : State → Nat) (k : Nat) {s t : State} (h : step s = .next t) :
    runSum f (k + 1) s = f s + runSum f k t := by
  simp [runSum, h]

end Sys2Proof.Machine
end

