-- ==== Sys2Proof/Laws/Units.lean ====
section
/-! SUPPORT. What the VANE, CMEAN and sine ROM operations can do, said once (42_vane R175 to R179; 43_circular_mean R190
to R199). -/

namespace Sys2Proof.Machine

/-! ### VANE -/

/-- `vane_complete`: the degenerate report or a resolved direction (42_vane R179). -/
theorem vaneComplete_cases (b : Build) (c r : Nat) (v : Vane) :
    (degenerate b c = true ∧ vaneComplete b c r v = { v with degen := true, valid := false, res := 0, out := 0 }) ∨
    (degenerate b c = false ∧ vaneComplete b c r v =
      { v with
        res := BitVec.ofNat 32 (vaneResistance b c r)
        out := vaneOutWord (nearestEntry b c r)
        degen := false
        valid := true }) := by
  unfold vaneComplete
  cases h : degenerate b c <;> simp

/-- The scan answers an entry it started from or went through. -/
theorem scanNearest_range (dist : Nat → Nat) (best k fuel n : Nat) (hb : best < n) (hk : k + fuel ≤ n) :
    scanNearest dist best k fuel < n := by
  induction fuel generalizing best k with
  | zero => exact hb
  | succ fuel ih =>
    unfold scanNearest
    exact ih _ _ (by split_ifs <;> omega) (by omega)

/-! ### CMEAN -/

/-- `cmean_complete`: the computation fault or the mean (43_circular_mean R199). -/
theorem cmeanComplete_cases (s c : Int) (m : Cmean) :
    (s = 0 ∧ c = 0 ∧ cmeanComplete s c m = { m with fault := true, valid := false, out := 0 }) ∨
    (¬(s = 0 ∧ c = 0) ∧
      cmeanComplete s c m = { m with out := cmeanOutWord (meanDeci s c), fault := false, valid := true }) := by
  unfold cmeanComplete
  split_ifs with h
  · exact .inl ⟨h.1, h.2, rfl⟩
  · exact .inr ⟨h, rfl⟩

theorem turning_double_turns (t : Turning) (m : Nat) (h : t.turns < m) : t.double.turns < 2 * m := by
  unfold Turning.double
  dsimp only
  split_ifs <;> omega

theorem turning_plus_turns (c s : Int) (t : Turning) (m : Nat) (h : t.turns < m) : (t.plus c s).turns < m + 1 := by
  unfold Turning.plus
  dsimp only
  split_ifs <;> omega

/-- 3600 times an angle below a full turn makes fewer than 3600 full turns. -/
theorem turning3600_turns (c s : Int) : (turning3600 c s).turns < 3600 := by
  have d := fun t m h => turning_double_turns t m h
  have p := fun t m h => turning_plus_turns c s t m h
  have h1 : (⟨0, c, s⟩ : Turning).turns < 1 := Nat.one_pos
  simp only [turning3600, List.foldl, Turning.digit, if_true, Bool.false_eq_true, if_false]
  exact d _ 1800 (d _ 900 (d _ 450 (d _ 225 (p _ 224 (d _ 112 (d _ 56 (d _ 28 (d _ 14 (d _ 7 (p _ 6 (d _ 3
    (p _ 2 (d _ 1 h1)))))))))))))

/-- The mean is an angle: 0 .. 3599 decidegrees (43_circular_mean R198). -/
theorem meanDeci_lt (s c : Int) : meanDeci s c < 3600 := by
  have h := turning3600_turns c s
  unfold meanDeci roundedTurns
  dsimp only
  split_ifs <;> omega

/-! ### The sine ROM -/

/-- No entry of the ROM exceeds 1.0 in Q1.14. -/
theorem sinqTable_le : ∀ x ∈ sinqTable, x ≤ 16384 := by decide +kernel

theorem sinqT_natAbs_le (i : Nat) : (sinqT i).natAbs ≤ 16384 := by
  unfold sinqT
  rw [Int.natAbs_natCast, List.getD_eq_getElem?_getD]
  cases h : sinqTable[i]? with
  | none => simp
  | some x => exact sinqTable_le x (List.mem_of_getElem? h)

/-- "Each term has magnitude at most 16384" (10_state R50). -/
theorem sinq_natAbs_le (a : Nat) : (sinq a).natAbs ≤ 16384 := by
  unfold sinq
  dsimp only
  split <;> (try rw [Int.natAbs_neg]) <;> exact sinqT_natAbs_le _

theorem cosq_natAbs_le (a : Nat) : (cosq a).natAbs ≤ 16384 := sinq_natAbs_le _

end Sys2Proof.Machine
end

