-- ==== Sys2Proof/Machine/HostScript.lean ====
section
/-! DEFINITION. The host script: the notation for a host's transactions, and the pseudo-instructions of the assembler
(30_encoding R88 to R90).  It is no part of the hardware; a script becomes inputs of the machine, one per cycle. -/

namespace Sys2Proof.Machine

/-- A statement of the host script (30_encoding R88, R89). -/
inductive HostStmt where
  /-- `WR <reg>, <imm32>`. -/
  | wr (r : Reg) (v : Word)
  /-- `RD <reg>`. -/
  | rd (r : Reg)
  /-- `POLL <reg>, <mask>, <value>`. -/
  | poll (r : Reg) (mask value : Word)
  /-- `IDLE <n>`. -/
  | idle (n : Nat)
  /-- A command mnemonic with its operand. -/
  | command (i : Instr)
  | waitOw
  | waitVane
  | waitCmean
  /-- `ACK <bits>`. -/
  | ack (bits : Word)
  | clrSticky
  deriving DecidableEq, Repr

/-- The expansion of the pseudo-instructions (30_encoding R89); `none` where the assembler refuses an operand. -/
def HostStmt.expand : HostStmt → Option HostStmt
  | .command i => (assemble i).map (HostStmt.wr .cmd)
  | .waitOw => some (.poll .status 0x00000001 0)
  | .waitVane => some (.poll .status 0x00000010 0)
  | .waitCmean => some (.poll .status 0x00000100 0)
  | .ack bits => some (.wr .irqStatus bits)
  | .clrSticky => some (.wr .status 0x00031800)
  | .wr r v => some (.wr r v)
  | .rd r => some (.rd r)
  | .poll r mask value => some (.poll r mask value)
  | .idle n => some (.idle n)

/-- The offset of a register as the bus presents it. -/
def Reg.busAddr (r : Reg) : Byte := BitVec.ofNat 8 r.offset

/-- The transactions of an expanded statement, in consecutive cycles (30_encoding R88).  `more` is how many reads of a
POLL did not match, so that a POLL makes `more + 1` reads. -/
def HostStmt.transactions (more : Nat) : HostStmt → Option (List Transaction)
  | .wr r v => some [.write r.busAddr v]
  | .rd r => some [.read r.busAddr]
  | .poll r _ _ => some (List.replicate (more + 1) (.read r.busAddr))
  | .idle n => some (List.replicate n .idle)
  | .command i => (assemble i).map fun w => [.write Reg.cmd.busAddr w]
  | .waitOw | .waitVane | .waitCmean => some (List.replicate (more + 1) (.read Reg.status.busAddr))
  | .ack bits => some [.write Reg.irqStatus.busAddr bits]
  | .clrSticky => some [.write Reg.status.busAddr 0x00031800]

/-- Whether a value read ends a POLL: `(r & mask) == value` (30_encoding R88). -/
def pollMatches (mask value r : Word) : Bool := decide (r &&& mask = value)

/-- Whether a POLL makes exactly these reads: "the last read is the one that matched" (30_encoding R88). -/
def pollReads (mask value : Word) : List Word → Bool
  | [] => false
  | [r] => pollMatches mask value r
  | r :: r' :: rs => !pollMatches mask value r && pollReads mask value (r' :: rs)

/-- The inputs of a list of transactions, the pins at the given levels: one input per cycle, in order. -/
def scriptInputs (pins : Input) (ts : List Transaction) : List Input :=
  ts.map fun t => ({ pins with rst := false }).withTransaction t

end Sys2Proof.Machine
end

