-- ==== Sys2Proof/Tests/Slice0.lean ====
section
/-! SUPPORT. Tests, each a named theorem: the checks of WellFormed, the encodings written out from the spec's tables, small
one-step tests whose expected results are those of 95_test_vectors (or computed by hand where said), and for every
statement with hypotheses a concrete state and operands that meet them (witness_...). -/

namespace Sys2Proof.Tests

open Sys2Proof Sys2Proof.Machine

/-! ### Helpers -/

/-- The state a step reaches. -/
def after (s : State) : State :=
  match step s with
  | .next t => t
  | .fault _ => s
  | .refused _ => s

/-- The state a step reaches is what the step answers. -/
theorem step_after (s : State) : step s = .next (after s) := by
  have h : ∃ t, step s = .next t := by
    unfold step runCycle
    split
    · exact ⟨_, rfl⟩
    · obtain ⟨u, hu⟩ := hostEffect_total s.nextInput.transaction s
      exact ⟨_, by rw [hu]⟩
  obtain ⟨t, ht⟩ := h
  simp [after, ht]

/-- The reset state of a build that differs from the reference build in its latencies. -/
def withLat (vaneLat cmeanLat : Nat) : State :=
  State.resetOf { Config.referenceBuild with vaneLat := vaneLat, cmeanLat := cmeanLat }

/-- The state after the cycle in which the host writes `w` to CMD. -/
def cmd (w : Word) (s : State) : State := after (presenting (.write 0x04 w) s)

/-- The state after the cycle in which the host writes `v` at `off`. -/
def wr (off : Byte) (v : Word) (s : State) : State := after (presenting (.write off v) s)

/-- The state after a cycle without a transaction, its pins at their idle levels. -/
def idle (s : State) : State := after (presenting .idle s)

/-- A state whose next cycle has the given pins and no transaction. -/
def pins (owIn : Bool) (pcIn : Byte) (s : State) : State := { s with inputs := [⟨false, 0, 0, 0, owIn, pcIn⟩] }

/-- A state whose next cycle is a reset cycle with a write to CMD. -/
def inReset : State := { State.reset with inputs := [⟨true, 2, 4, 0x21, true, 0⟩] }

/-! ### WellFormed: an ill-formed term for each check (30_encoding R89, 00_scope R7) -/

theorem test_wf_vaneResolve : (Instr.vaneResolve 4095).wellFormed = true ∧ (Instr.vaneResolve 4096).wellFormed = false := by
  decide

theorem test_wf_cmeanAdd : (Instr.cmeanAdd 4095).wellFormed = true ∧ (Instr.cmeanAdd 4096).wellFormed = false := by decide

theorem test_wf_pcTake : (Instr.pcTake 15).wellFormed = true ∧ (Instr.pcTake 16).wellFormed = false := by decide

theorem test_wf_assemble : assemble (.cmeanAdd 4096) = none ∧ assemble (.cmeanAdd 3500) = some 0x0DAC0021 := by decide

theorem test_wf_reference_build : Config.referenceBuild.wellFormed = true := by decide

theorem test_wf_clkPerTick : { Config.referenceBuild with clkPerTick := 0 }.wellFormed = false ∧
    { Config.referenceBuild with clkPerTick := 65537 }.wellFormed = false := by decide

theorem test_wf_ticksPerMs : { Config.referenceBuild with ticksPerMs := 0 }.wellFormed = false ∧
    { Config.referenceBuild with ticksPerMs := 65537 }.wellFormed = false := by decide

theorem test_wf_nlines : { Config.referenceBuild with nlines := 0 }.wellFormed = false ∧
    { Config.referenceBuild with nlines := 9 }.wellFormed = false := by decide

theorem test_wf_syncStages : { Config.referenceBuild with syncStages := 5 }.wellFormed = false := by decide

theorem test_wf_latencies : { Config.referenceBuild with vaneLat := 65537 }.wellFormed = false ∧
    { Config.referenceBuild with cmeanLat := 65537 }.wellFormed = false := by decide

/-! ### Decoding: words written out from the fields OPC w[7:0], LINE w[11:8], ARG w[27:16] (30_encoding R80, R81, R85) -/

theorem test_decode_nop : decode 0b0000_000000000000_0000_0000_00000000 = .command .nop := by decide

theorem test_decode_owRead : decode 0b0000_000000000000_0000_0000_00000001 = .command .owRead := by decide

theorem test_decode_vaneResolve : decode 0b0000_100000000000_0000_0000_00010000 = .command (.vaneResolve 2048) := by decide

theorem test_decode_cmeanClear : decode 0b0000_000000000000_0000_0000_00100000 = .command .cmeanClear := by decide

theorem test_decode_cmeanAdd : decode 0b0000_110110101100_0000_0000_00100001 = .command (.cmeanAdd 3500) := by decide

theorem test_decode_cmeanCompute : decode 0b0000_000000000000_0000_0000_00100010 = .command .cmeanCompute := by decide

theorem test_decode_pcTake : decode 0b0000_000000000000_0000_1001_00110000 = .command (.pcTake 9) := by decide

/-- Ignored bits change nothing (30_encoding R82, vector M22). -/
theorem test_decode_ignored : decode 0xF3840F21 = .command (.cmeanAdd 900) ∧ decode 0xF000F000 = .command .nop := by decide

/-- Reserved opcodes next to the defined ones (30_encoding R86). -/
theorem test_decode_reserved : decode 0x02 = .reserved 0x02 ∧ decode 0x0F = .reserved 0x0F ∧ decode 0x11 = .reserved 0x11 ∧
    decode 0x23 = .reserved 0x23 ∧ decode 0x31 = .reserved 0x31 ∧ decode 0xFFFFFFFF = .reserved 0xFF := by decide

theorem test_decodeTableWord : decodeTableWord 32 0x0F30 = some (.pcTake 15) ∧ decodeTableWord 32 0x40 = none := by decide

/-! ### Commands, one step each (95_test_vectors) -/

/-- Vector K11: NOP, with ignored bits set, changes no status bit. -/
theorem test_nop : busRead (cmd 0xF000F000 State.reset) 0x08 = 0 := by decide +kernel

/-- Vector K12: a reserved opcode sets BADCMD. -/
theorem test_badcmd : busRead (cmd 0x40 State.reset) 0x08 = 0x10000 := by decide +kernel

/-- Trace of OW1: after the accept OW is LOW for 18001 ticks and drives the line low. -/
theorem test_owRead : (cmd 0x01 State.reset).ow.phase = .low ∧ (cmd 0x01 State.reset).ow.tcnt = 18001 ∧
    (idle (cmd 0x01 State.reset)).out = ⟨true, false, true, false, 0⟩ := by decide +kernel

/-- Vector OW14: a second OW_READ sets COLLIDE beside OW_BUSY, and the read goes on. -/
theorem test_owRead_collides : busRead (cmd 0x01 (cmd 0x01 State.reset)) 0x08 = 0x20001 ∧
    (cmd 0x01 (cmd 0x01 State.reset)).ow.tcnt = 18000 := by decide +kernel

/-- Vectors V3 (a tie of entries 7 and 6) with VANE_OUT, VANE_RES and STATUS. -/
theorem test_vaneResolve : busRead (cmd 0x08000010 (wr 0x24 1805 State.reset)) 0x2C = 0x05460026 ∧
    busRead (cmd 0x08000010 (wr 0x24 1805 State.reset)) 0x28 = 0x00070D00 ∧
    busRead (cmd 0x08000010 (wr 0x24 1805 State.reset)) 0x08 = 0x20 := by decide +kernel

/-- Vectors V4 and V6: the degenerate code, and the saturated resistance. -/
theorem test_vaneResolve_ends : busRead (cmd 0x00000010 (wr 0x24 1000 State.reset)) 0x08 = 0x40 ∧
    busRead (cmd 0x00010010 (wr 0x24 0xFFFFFF State.reset)) 0x28 = 0xFFFFFFFF ∧
    busRead (cmd 0x00010010 (wr 0x24 0xFFFFFF State.reset)) 0x2C = 0x0A8C003C := by decide +kernel

/-- Vectors M22 and M6: ADD 900 with ignored bits set; ADD 1800. -/
theorem test_cmeanAdd : busRead (cmd 0xF3840F21 State.reset) 0x34 = 0x4000 ∧
    busRead (cmd 0x07080021 State.reset) 0x38 = 0xFFFFC000 ∧ busRead (cmd 0x07080021 State.reset) 0x30 = 1 := by
  decide +kernel

/-- Vectors M22 and M23: an angle out of range, and a full set. -/
theorem test_cmeanAdd_dropped : busRead (cmd 0x0FFF0021 State.reset) 0x08 = 0x800 ∧
    busRead (cmd 0x000A0021 { State.reset with cmean := { Cmean.reset with n := 0xFFFF } }) 0x08 = 0x1000 := by
  decide +kernel

/-- CMEAN_CLEAR keeps CMEAN_OUT (43_circular_mean R193, by hand). -/
theorem test_cmeanClear : (cmd 0x20 { State.reset with cmean := ⟨0, 3, 5, 6, true, false, 0x000101C2⟩ }).cmean =
    ⟨0, 0, 0, 0, false, false, 0x000101C2⟩ := by decide +kernel

/-- Vectors M20 and M11: 1234 from S = 13678, C = -9019; and theta 3599.988, which rounds to 3600 and is taken to 0. -/
theorem test_cmeanCompute :
    (cmd 0x22 { State.reset with cmean := ⟨0, 1, 13678, BitVec.ofInt 32 (-9019), false, false, 0⟩ }).cmean.out = 0x000104D2 ∧
    (cmd 0x22 { State.reset with cmean := ⟨0, 3, BitVec.ofInt 32 (-1), 49152, false, false, 7⟩ }).cmean.out = 0 := by
  decide +kernel

/-- Vector M3: an empty set has no mean. -/
theorem test_cmeanCompute_fault : busRead (cmd 0x22 State.reset) 0x08 = 0x400 := by decide +kernel

/-- Vector PC5: the edge of the cycle of a PC_TAKE is counted into the new period. -/
theorem test_pcTake :
    let s := { State.reset with
      pcCtrl := ⟨1, 0, 1⟩
      lines := [⟨[true, true], false, 0, 1, 0, true, false⟩, Line.reset 2] }
    (cmd 0x30 s).line 0 = ⟨[false, true], true, 1000, 1, 1, false, true⟩ ∧ (cmd 0x30 s).line 1 = Line.reset 2 := by
  decide +kernel

/-- Program 4: PC_TAKE of a line that does not exist. -/
theorem test_pcTake_bad : busRead (cmd 0x0230 State.reset) 0x08 = 0x10000 := by decide +kernel

/-- withFetchWord runs exactly its word, in the very next step. -/
theorem test_withFetchWord : (after (State.reset.withFetchWord 32 0x40)).sticky.badcmd = true ∧
    (after (State.reset.withFetchWord 32 0x01)).ow.phase = .low := by decide +kernel

/-! ### Registers and the cycle -/

/-- Vectors K1, K5, K6, K7, K8. -/
theorem test_registers : busRead State.reset 0x00 = 0x57440201 ∧
    busRead (wr 0x14 0xFFFFFFFF State.reset) 0x14 = 0x7FFFFFFF ∧
    busRead (wr 0x40 0xFFFFFFFF State.reset) 0x40 = 0x00FF0303 ∧
    busRead (wr 0x24 0xFFFFFFFF State.reset) 0x24 = 0x00FFFFFF ∧
    busRead (wr 0x0C 0xFFFFFFFF State.reset) 0x0C = 0x7 := by decide +kernel

/-- Vectors K3, K4, K9, K10. -/
theorem test_offsets : busRead State.reset 0x58 = 0 ∧ busRead (wr 0x00 0x1234 State.reset) 0x00 = 0x57440201 ∧
    busRead State.reset 0x4B = 0 ∧ busRead (wr 0x05 0x21 State.reset) 0x30 = 1 := by decide +kernel

/-- Vector K13: the completion sets VANE_DONE in the cycle of the clear, and the set wins; a later clear clears it. -/
theorem test_set_wins : busRead (wr 0x10 2 (idle (cmd 0x00640010 (withLat 2 0)))) 0x10 = 2 ∧
    busRead (wr 0x10 2 (wr 0x10 2 (idle (cmd 0x00640010 (withLat 2 0))))) 0x10 = 0 := by decide +kernel

/-- Vector K15: the pin `irq` of the cycle after a degenerate VANE_RESOLVE with VANE_DONE enabled. -/
theorem test_irq : (idle (cmd 0x10 (wr 0x0C 2 State.reset))).out.irq = true := by decide +kernel

/-- A reset cycle ignores its write (70_reset R260, by hand). -/
theorem test_reset_cycle : (after inReset).cmean.n = 0 ∧ (after inReset).cycle = 1 := by decide +kernel

/-- The byte lanes of ID (20_memory R65, by hand). -/
theorem test_bytes : State.reset.byteAt 0 = some 0x01 ∧ State.reset.byteAt 3 = some 0x57 ∧ State.reset.byteAt 256 = none := by
  decide +kernel

/-! ### OW and tables -/

/-- Table H of 95_test_vectors, the humidity column. -/
theorem test_hum10 : hum10 #v[0x01, 0x90, 0, 0, 0] = 400 ∧ hum10 #v[0x03, 0xE8, 0, 0, 0] = 1000 ∧
    hum10 #v[0x03, 0xE9, 0, 0, 0] = 30 ∧ hum10 #v[0xFF, 0xFF, 0, 0, 0] = 2550 := by decide

/-- Table H of 95_test_vectors, the temperature column. -/
theorem test_temp10 : temp10 #v[0, 0, 0x80, 0x96, 0] = -150 ∧ temp10 #v[0, 0, 0x04, 0xE2, 0] = 1250 ∧
    temp10 #v[0, 0, 0x04, 0xE3, 0] = 40 ∧ temp10 #v[0, 0, 0x84, 0xE3, 0] = -1320 ∧ temp10 #v[0, 0, 0x7F, 0xFF, 0] = 1270 := by
  decide

/-- Vectors OW1 and OW3: the checksum of 01 90 80 96. -/
theorem test_checksum : checksumOk #v[0x01, 0x90, 0x80, 0x96, 0xA7] = true ∧
    checksumOk #v[0x01, 0x90, 0x80, 0x96, 0xA8] = false := by decide

/-- The threshold boundary (E2): a data window of 46 gives 0 and one of 47 gives 1. -/
theorem test_threshold : (windowEnd 4 46 { Ow.reset with thrL := 46 }).acc = #v[0, 0, 0, 0, 0] ∧
    (windowEnd 4 47 { Ow.reset with thrL := 46 }).acc = #v[1, 0, 0, 0, 0] := by decide

/-- The samples of SINQ and COSQ of 95_test_vectors. -/
theorem test_sinq : sinq 1 = 29 ∧ sinq 800 = 16135 ∧ cosq 899 = 29 ∧ cosq 1000 = -2845 ∧ sinq 3599 = -29 ∧ cosq 3500 = 16135 := by
  decide +kernel

/-! ### The host script -/

/-- 30_encoding R89: WAIT_VANE and ACK as transactions. -/
theorem test_script : HostStmt.waitVane.expand = some (.poll .status 0x10 0) ∧
    (HostStmt.ack 1).transactions 0 = some [.write 0x10 1] ∧
    (HostStmt.command (.pcTake 1)).transactions 0 = some [.write 0x04 0x0130] ∧
    (HostStmt.idle 2).transactions 0 = some [.idle, .idle] := by decide

/-- 30_encoding R88: the reads of the WAIT_CMEAN of program 3 end its POLL, and no shorter list of them does. -/
theorem test_poll : pollReads 0x100 0 [0x20120, 0x20120, 0x20220] = true ∧ pollReads 0x100 0 [0x20120] = false := by decide

/-! ### Witnesses: the hypotheses of every statement can be met, each clause at a boundary of its range -/

theorem witness_DecodeOfEncodeIsTheCommand : ∃ i : Instr, i.wellFormed = true := ⟨.pcTake 15, by decide⟩

theorem witness_StepRunsTheDecodedCommand : ∃ (s : State) (off : Byte) (w : Word) (i : Instr), s.nextInput.rst = false ∧
    s.nextTransaction = .write off w ∧ off.toNat / 4 = 1 ∧ decode w = .command i :=
  ⟨presenting (.write 0x07 0x0FFF0021) State.reset, 0x07, 0x0FFF0021, .cmeanAdd 4095, by decide, by decide, by decide, by decide⟩

/-- The units idle at the start of a cycle in which a VANE_RESOLVE and a CMEAN_COMPUTE leave their results at latency 0, and
a write of the configuration. -/
theorem witness_StepRunsTheDecodedCommand_merge : State.reset.ow.phase = .idle ∧ State.reset.vane.cnt = 0 ∧
    State.reset.cmean.cnt = 0 ∧ (presenting (.write 0x0C 7) State.reset).nextInput.rst = false ∧
    hostEffect (presenting (.write 0x0C 7) State.reset).nextTransaction (presenting (.write 0x0C 7) State.reset) =
      .next { presenting (.write 0x0C 7) State.reset with irqEn := 7 } ∧
    (cmd 0x10 State.reset).vane.degen = true ∧ (cmd 0x22 State.reset).cmean.fault = true :=
  ⟨by decide, by decide, by decide, by decide, rfl, by decide +kernel, by decide +kernel⟩

theorem witness_ResetCycleLeavesTheResetState : ∃ s : State, s.nextInput.rst = true := ⟨inReset, by decide⟩

theorem witness_ResetRegisterValues : ∃ b : Build, b.wellFormed = true := ⟨Config.referenceBuild, by decide⟩

theorem witness_ResetHiddenState : ∃ (b : Build) (n : Nat), n < b.nlines := ⟨Config.referenceBuild, 1, by decide⟩

/-- A reset cycle, and a read with `rst` low. -/
theorem witness_OutputPinsAreFunctionsOfTheStartState : (∃ s t : State, step s = .next t ∧ s.nextInput.rst = true) ∧
    ∃ (s t : State) (off : Byte), step s = .next t ∧ s.nextInput.rst = false ∧ s.nextTransaction = .read off :=
  ⟨⟨inReset, _, step_after _, by decide⟩,
    ⟨presenting (.read 0x08) State.reset, _, 0x08, step_after _, by decide, by decide⟩⟩

/-- Each value of `bus_req`, and a cycle with 3 after the reset state. -/
theorem witness_OutputPinsAreFunctionsOfTheStartState_bus : (∀ q : BitVec 2, ∃ s : State, s.nextInput.busReq = q) ∧
    ∃ s t : State, step s = .next t ∧ s.nextInput.rst = false ∧ s.nextInput.busReq = 3 :=
  ⟨fun q => ⟨{ State.reset with inputs := [⟨false, q, 0x14, 0, true, 0⟩] }, rfl⟩,
    ⟨{ State.reset with inputs := [⟨false, 3, 0x14, 0, true, 0⟩] }, _, step_after _, by decide, by decide⟩⟩

/-- A cycle without reset whose pins differ from what the synchronisers hold. -/
theorem witness_SynchroniserDelaysByItsStages : ∃ (s t : State) (n : Nat) (l : Line), s.nextInput.rst = false ∧
    step s = .next t ∧ s.lines[n]? = some l ∧ t.owSync = [false, true] :=
  ⟨pins false 3 State.reset, _, 1, Line.reset 2, by decide, step_after _, by decide, by decide +kernel⟩

/-- The lines of the reference build at reset are legal. -/
theorem test_line_reset_legal : (Line.reset 2).Legal Config.referenceBuild := ⟨by decide, by decide⟩

/-- The reset state of the reference build is legal; the field-by-field check of one concrete state. -/
theorem test_reset_legal : State.reset.Legal where
  build_ok := by decide
  presc_lt := by decide
  ow_sync_length := by decide
  lines_length := by decide
  lines_legal := by
    intro l hl
    obtain ⟨-, rfl⟩ := List.mem_replicate.1 hl
    exact test_line_reset_legal
  en_lt := by decide
  edge_fall_lt := by decide
  ow_legal := ⟨by decide, by decide, by decide, by decide, by decide, by decide, by decide, by decide, by decide, by decide⟩
  vane_legal := ⟨by decide, by decide, by decide, by decide, 0, by decide, by decide⟩
  cmean_legal := ⟨by decide, by decide, by decide, by decide, by decide, by decide, 0, by decide, by decide⟩

theorem test_reset_noReset : State.reset.NoReset := fun i hi => absurd hi (by simp [State.reset])

theorem witness_TickEveryClkPerTickCycles : ∃ (k : Nat) (s t : State), s.Legal ∧ s.NoReset ∧
    Sys2Proof.core.run k s = .next t :=
  ⟨1, State.reset, _, test_reset_legal, test_reset_noReset, run_succ.2 ⟨_, step_after _, rfl⟩⟩

theorem witness_AddressLowBitsAreIgnored : ∃ a b : Byte, a ≠ b ∧ a.extractLsb' 2 6 = b.extractLsb' 2 6 :=
  ⟨0x14, 0x17, by decide, by decide⟩

theorem witness_PcStatusReadShowsEveryLine : ∃ s : State, s.Legal := ⟨State.reset, test_reset_legal⟩

theorem witness_RegisterReadsShowTheirFields : ∃ (s : State) (n : Nat) (l : Line), s.build.wellFormed = true ∧
    n < s.build.nlines ∧ s.lines[n]? = some l :=
  ⟨State.reset, 1, Line.reset 2, by decide, by decide, by decide⟩

/-- The reserved offsets at the ends of their ranges, for NLINES = 2, and a read-only register. -/
theorem witness_ReservedOffsetsAndReadOnlyRegisters : State.reset.build.wellFormed = true ∧
    (0x4F : Byte).toNat / 4 ∈ [18, 19] ∧ (36 ≤ (0xBC : Byte).toNat / 4 ∧ (0xBC : Byte).toNat / 4 < 48) ∧
    (20 + State.reset.build.nlines ≤ (0x58 : Byte).toNat / 4 ∧ (0x58 : Byte).toNat / 4 < 28) ∧
    (28 + State.reset.build.nlines ≤ (0x8C : Byte).toNat / 4 ∧ (0x8C : Byte).toNat / 4 < 36) ∧
    (0x44 : Byte).toNat / 4 ∉ [1, 2, 3, 4, 5, 9, 16] := by decide

theorem witness_RegisterWritesSetTheirFields : ∃ s : State, s.build.wellFormed = true := ⟨State.reset, by decide⟩

/-- A write to each of the four configuration registers. -/
theorem witness_WrittenConfigurationReadsBack : ∀ off ∈ ([0x0F, 0x14, 0x24, 0x43] : List Byte), ∃ s t : State,
    s.build.wellFormed = true ∧ s.nextInput.rst = false ∧ s.nextTransaction = .write off 0xFFFFFFFF ∧ step s = .next t := by
  intro off _
  exact ⟨presenting (.write off 0xFFFFFFFF) State.reset, _, test_wf_reference_build, by simp [nextInput_cons, presenting],
    by simp [State.nextTransaction, presenting, nextInput_cons], step_after _⟩

/-- An OW, a VANE and a CMEAN that complete in the next cycle, and latency 0 accepts. -/
theorem witness_IrqStatusSetWinsOverClear :
    let o := { State.reset with ow := { Ow.reset with phase := .high, tcnt := 1 } }
    let v := { withLat 1 1 with vane := { Vane.reset with cnt := 1 }, cmean := { Cmean.reset with cnt := 1 } }
    (∃ t, step (pins true 0 o) = .next t ∧ (pins true 0 o).nextInput.rst = false ∧ o.ow.phase ≠ .idle ∧ t.ow.phase = .idle) ∧
    (∃ t, step (pins true 0 v) = .next t ∧ v.vane.cnt = 1 ∧ v.cmean.cnt = 1) ∧
    (presenting (.write 0x04 0x10) State.reset).Issues (.vaneResolve 0) ∧
    (presenting (.write 0x04 0x22) State.reset).Issues .cmeanCompute :=
  ⟨⟨_, step_after _, by decide, by decide, by decide +kernel⟩, ⟨_, step_after _, by decide, by decide⟩,
    ⟨0x04, 0x10, by decide, by decide, by decide⟩, ⟨0x04, 0x22, by decide, by decide, by decide⟩⟩

/-- A cycle that issues a command and one that clears bit 16. -/
theorem witness_StickyBitsReportTheCommandOfTheCycle : ∀ off ∈ ([0x04, 0x08] : List Byte), ∃ (s t : State)
    (cleared : Nat → Prop), s.nextInput.rst = false ∧ step s = .next t ∧
    (∀ k, cleared k ↔ ∃ o v, s.nextTransaction = .write o v ∧ o.toNat / 4 = 2 ∧ v.getLsbD k = true) ∧
    s.nextTransaction = .write off 0x00010021 := by
  intro off _
  exact ⟨presenting (.write off 0x00010021) State.reset, _, _, by simp [nextInput_cons, presenting], step_after _,
    fun _ => Iff.rfl, by simp [State.nextTransaction, presenting, nextInput_cons]⟩

theorem witness_ByteLanesAreLittleEndian : ∃ (s : State) (r a : Nat), r < 64 ∧ s.build.base + 256 ≤ a :=
  ⟨State.reset, 63, 256, by decide, by decide⟩

theorem witness_NopChangesNothing : (0xFFFFFF00 : Word) &&& 0xFF = 0 := by decide

/-- A reserved word, and the least line that does not exist. -/
theorem witness_IllegalCommandOnlySetsBadcmd :
    (0x02 : Word).extractLsb' 0 8 ∉ ([0x00, 0x01, 0x10, 0x20, 0x21, 0x22, 0x30] : List Byte) ∧
    State.reset.build.nlines ≤ 2 := by decide

/-- Each unit busy, with a command to it. -/
theorem witness_BusyUnitDropsTheCommand :
    let s := { State.reset with ow := { Ow.reset with phase := .low, tcnt := 1 }, vane := { Vane.reset with cnt := 1 }, cmean := { Cmean.reset with cnt := 1 } }
    s.ow.phase ≠ .idle ∧ s.vane.cnt ≠ 0 ∧ s.cmean.cnt ≠ 0 := by decide

theorem witness_OwReadStartsAReadWhenIdle : ∃ s : State, s.ow.phase = .idle := ⟨State.reset, by decide⟩

/-- Both ends of the operand, at latency 0 and above. -/
theorem witness_VaneResolveWhenIdle : 4095 ≤ 4095 ∧ State.reset.vane.cnt = 0 ∧ State.reset.build.vaneLat = 0 ∧
    (withLat 2 3).vane.cnt = 0 ∧ (withLat 2 3).build.vaneLat ≠ 0 := by decide

theorem witness_CmeanClearWhenIdle : ∃ s : State, s.cmean.cnt = 0 := ⟨State.reset, by decide⟩

/-- The three clauses: 3600 is too large, 3599 with a full set, 3599 with room. -/
theorem witness_CmeanAddWhenIdle : (∃ s : State, s.cmean.cnt = 0 ∧ 3600 > 3599) ∧
    (∃ s : State, s.cmean.cnt = 0 ∧ 3599 ≤ 3599 ∧ s.cmean.n = 0xFFFF) ∧
    ∃ s : State, s.cmean.cnt = 0 ∧ 3599 ≤ 3599 ∧ s.cmean.n ≠ 0xFFFF ∧ s.cmean.Legal s.build :=
  ⟨⟨State.reset, by decide⟩, ⟨{ State.reset with cmean := { Cmean.reset with n := 0xFFFF } }, by decide⟩,
    ⟨State.reset, by decide, by decide, by decide, test_reset_legal.cmean_legal⟩⟩

/-- The largest angle, and an idle CMEAN at latency 0 and above. -/
theorem witness_CmeanComputeWhenIdle : 3599 < 3600 ∧ State.reset.cmean.cnt = 0 ∧ State.reset.build.cmeanLat = 0 ∧
    (withLat 2 3).cmean.cnt = 0 ∧ (withLat 2 3).build.cmeanLat ≠ 0 := by decide

theorem witness_PcTakeCapturesAndClears : ∃ (s : State) (n : Nat) (l : Line), n < s.build.nlines ∧ s.lines[n]? = some l :=
  ⟨State.reset, 1, Line.reset 2, by decide, by decide⟩

theorem witness_CommandFrames : ∃ (s t : State) (i : Instr), exec i s = .next t := ⟨State.reset, _, .pcTake 0, rfl⟩

theorem witness_CommandReportsAtMostOneOutcome : ∃ (s t : State) (i : Instr), exec i s = .next t :=
  ⟨State.reset, _, .cmeanAdd 3600, rfl⟩

/-- OW in LOW and in HIGH, in a tick cycle, and busy in a cycle that is none. -/
theorem witness_OwStartPulseStep :
    let lo := pins true 0 { State.reset with ow := { Ow.reset with phase := .low, tcnt := 1 } }
    let hi := pins true 0 { State.reset with ow := { Ow.reset with phase := .high, tcnt := 1 } }
    let slow := pins true 0 { State.resetOf { Config.referenceBuild with clkPerTick := 2 } with ow := { Ow.reset with phase := .low, tcnt := 1 } }
    lo.nextInput.rst = false ∧ lo.tick = true ∧ lo.ow.phase = .low ∧ hi.nextInput.rst = false ∧ hi.tick = true ∧
      hi.ow.phase = .high ∧ slow.nextInput.rst = false ∧ slow.tick = false ∧ slow.ow.phase ≠ .idle := by decide

/-- An OW in SAMPLE: the first window, its 255th sample coming, of `m` windows. -/
def sampling (m : BitVec 7) : Ow := { Ow.reset with phase := .sample, cnt := 254, maxwinL := m }

theorem test_sampling_legal (m : BitVec 7) (h : 0 < m.toNat) : (sampling m).Legal Config.referenceBuild where
  low_tcnt := fun h => by simp [sampling] at h
  high_tcnt := fun h => by simp [sampling] at h
  start_empty := fun h => by simp [sampling] at h
  sample_open := fun _ => ⟨h, Nat.le_refl _⟩
  nbits_eq := by simp [sampling, Ow.reset, dataBits]
  busy_blank := fun _ => ⟨rfl, rfl, rfl, rfl, rfl⟩
  valid_means := fun h => by simp [sampling, Ow.reset] at h
  timeout_means := fun h => by simp [sampling, Ow.reset] at h
  short_means := fun h => by simp [sampling, Ow.reset] at h
  checksum_means := fun h => by simp [sampling, Ow.reset] at h

/-- An equal sample, the 255th, and a different one in the last window and before it. -/
theorem witness_OwSampleStep : ∀ m ∈ ([1, 127] : List (BitVec 7)),
    let s := { State.reset with ow := sampling m }
    let e := pins true 0 s
    let d := pins true 0 { s with owSync := [true, false] }
    e.ow.Legal e.build ∧ e.nextInput.rst = false ∧ e.tick = true ∧ e.ow.phase = .sample ∧
      syncValue e.nextInput.owIn e.owSync = e.ow.last ∧ d.ow.Legal d.build ∧ d.nextInput.rst = false ∧ d.tick = true ∧
      syncValue d.nextInput.owIn d.owSync ≠ d.ow.last := by
  intro m hm
  have h : (sampling m).Legal Config.referenceBuild := test_sampling_legal m (by fin_cases hm <;> decide)
  exact ⟨h, rfl, by rfl, rfl, rfl, h, rfl, by rfl, show false ≠ true by decide⟩

/-- The fortieth bit in an even window, and the windows that carry none. -/
theorem witness_WindowEndShiftsOneBit : (4 ≤ 82 ∧ 82 % 2 = 0 ∧ ({ Ow.reset with nbits := 39 } : Ow).nbits.toNat < 40) ∧
    ¬(4 ≤ 3) ∧ ¬(5 % 2 = 0) ∧ ¬(({ Ow.reset with nbits := 40 } : Ow).nbits.toNat < 40) := by decide

theorem witness_FrameBitsLandMostSignificantFirst : ∃ (o : Ow) (ds : List Nat), o.nbits = 0 ∧ o.acc = #v[0, 0, 0, 0, 0] ∧
    ds.length = 40 := ⟨Ow.reset, List.replicate 40 47, by decide, by decide, by decide⟩

theorem witness_SingleByteCorruptionIsCaught : ∃ (acc : Vector Byte 5) (k : Nat) (b : Byte) (h : k < 5),
    checksumOk acc = true ∧ b ≠ acc[k] :=
  ⟨#v[0x01, 0x90, 0x80, 0x96, 0xA7], 4, 0xA8, by decide, by decide, by decide⟩

/-- Each clause at the boundary of its range: 1000 and 1001; 1250 and 1251, with a positive and a negative sign. -/
theorem witness_ReadingRanges :
    256 * (0x03 : Byte).toNat + (0xE8 : Byte).toNat ≤ 1000 ∧ 256 * (0x03 : Byte).toNat + (0xE9 : Byte).toNat > 1000 ∧
    256 * ((0x84 : Byte).toNat % 128) + (0xE2 : Byte).toNat ≤ 1250 ∧
    (256 * ((0x04 : Byte).toNat % 128) + (0xE3 : Byte).toNat > 1250 ∧ (0x04 : Byte).toNat < 128) ∧
    256 * ((0x84 : Byte).toNat % 128) + (0xE3 : Byte).toNat > 1250 ∧ 128 ≤ (0x84 : Byte).toNat := by decide

theorem witness_OwReadEndsWithinItsBound : ∃ s t : State, s.Legal ∧ s.ow.phase = .idle ∧ s.nextInput.rst = false ∧
    s.Issues .owRead ∧ step s = .next t := by
  have h := test_reset_legal
  exact ⟨presenting (.write 0x04 0x01) State.reset, _, ⟨h.1, h.2, h.3, h.4, h.5, h.6, h.7, h.8, h.9, h.10⟩, by decide, by decide,
    ⟨0x04, 0x01, by decide, by decide, by decide⟩, step_after _⟩

/-- A read that starts, and a read in progress beside another configuration. -/
theorem witness_OwStartsOnlyOnOwReadAndLatchesItsConfiguration :
    (∃ s t : State, step s = .next t ∧ s.ow.phase = .idle ∧ t.ow.phase ≠ .idle) ∧
    ∃ (s t t' : State) (cfg : OwCfg), step s = .next t ∧ s.ow.phase ≠ .idle ∧ cfg ≠ s.owCfg ∧
      step { s with owCfg := cfg } = .next t' :=
  ⟨⟨presenting (.write 0x04 0x01) State.reset, _, step_after _, by decide, by decide +kernel⟩,
    ⟨{ State.reset with ow := sampling 85 }, _, _, ⟨0, 0, 0, 0⟩, step_after _, by decide, by decide, step_after _⟩⟩

theorem witness_VaneResistanceIsTheFlooredRational : ∃ (b : Build) (c : Nat), 0 < c ∧ c ≤ b.adcFs.value :=
  ⟨Config.referenceBuild, 4096, by decide, by decide⟩

theorem witness_NearestEntryIsTheLeastNearest : ∃ (b : Build) (c r : Nat) (R : ℚ), 0 < c ∧ c ≤ b.adcFs.value ∧
    R = (r : ℚ) * ((b.adcFs.value : ℚ) - (c : ℚ)) / (c : ℚ) :=
  ⟨Config.referenceBuild, 1, 0xFFFFFF, _, by decide, by decide, rfl⟩

theorem witness_VaneOutFieldsAndSectors : ∃ k a : Nat, k < 16 ∧ a < 3600 ∧ 3150 ≤ a := ⟨15, 3599, by decide⟩

/-- Before the last cycle of the countdown, and at its end, with a resolved and with a degenerate code. -/
theorem witness_VaneCompletesAfterItsLatency : ∀ c ∈ ([0, 4095] : List (BitVec 12)), ∃ s t u : State,
    s.NoReset ∧ s.vane.cnt ≠ 0 ∧ 1 < s.vane.cnt ∧ Sys2Proof.core.run 1 s = .next t ∧ 2 = s.vane.cnt ∧
      Sys2Proof.core.run 2 s = .next u ∧ s.vane.cL = c := by
  intro c _
  refine ⟨{ withLat 2 2 with vane := { Vane.reset with cnt := 2, cL := c } }, _, _, fun i hi => absurd hi (by simp [withLat]),
    show 2 ≠ 0 by decide, show 1 < 2 by decide, run_succ.2 ⟨_, step_after _, rfl⟩, rfl,
    run_succ.2 ⟨_, step_after _, run_succ.2 ⟨_, step_after _, rfl⟩⟩, rfl⟩

/-- The same for CMEAN, with an empty set and with a sample. -/
theorem witness_CmeanCompletesAfterItsLatency : ∀ w ∈ ([0, 16384] : List Word), ∃ s t u : State,
    s.NoReset ∧ s.cmean.cnt ≠ 0 ∧ 1 < s.cmean.cnt ∧ Sys2Proof.core.run 1 s = .next t ∧ 2 = s.cmean.cnt ∧
      Sys2Proof.core.run 2 s = .next u ∧ s.cmean.csum = w := by
  intro w _
  refine ⟨{ withLat 2 2 with cmean := { Cmean.reset with cnt := 2, csum := w } }, _, _, fun i hi => absurd hi (by simp [withLat]),
    show 2 ≠ 0 by decide, show 1 < 2 by decide, run_succ.2 ⟨_, step_after _, rfl⟩, rfl,
    run_succ.2 ⟨_, step_after _, run_succ.2 ⟨_, step_after _, rfl⟩⟩, rfl⟩

theorem witness_SineRomIsTheRoundedSine : ∃ i : Nat, i ≤ 900 := ⟨900, by decide⟩

theorem witness_SineAndCosineFollowTheQuarterTable : ∃ i : Nat, i < 900 := ⟨899, by decide⟩

theorem witness_MeanIsTheRoundedDirection : ∃ (S C : ℤ) (theta : ℝ), ¬(S = 0 ∧ C = 0) ∧
    theta = (if Complex.arg ⟨(C : ℝ), (S : ℝ)⟩ < 0 then Complex.arg ⟨(C : ℝ), (S : ℝ)⟩ * 1800 / Real.pi + 3600
      else Complex.arg ⟨(C : ℝ), (S : ℝ)⟩ * 1800 / Real.pi) := ⟨-1, 49152, _, by decide, rfl⟩

/-- A vector of each quadrant clause beside an axis, and the least length. -/
theorem witness_MeanOnAxesAndDiagonals : ((0 : ℤ) < 1 ∧ (0 : ℤ) < 49152) ∧ ((-1 : ℤ) < 0 ∧ (0 : ℤ) < 49152) ∧
    (∃ k : ℤ, 0 < k) ∧ meanDeci 1 49152 = 0 ∧ meanDeci (-1) 49152 = 0 ∧ meanDeci 1 (-49152) = 1800 :=
  ⟨by decide, by decide, ⟨1, by decide⟩, by decide +kernel, by decide +kernel, by decide +kernel⟩

/-- A rising edge on line 0, judged in the next cycle: enabled, its timer idle. -/
def edging : State :=
  pins true 0 { State.reset with pcCtrl := ⟨1, 0, 1⟩, lines := [⟨[true, true], false, 0, 4, 0, false, false⟩, Line.reset 2] }

theorem witness_LineStep : ∃ (s t : State) (n : Nat) (l : Line), s.build.wellFormed = true ∧ s.nextInput.rst = false ∧
    step s = .next t ∧ n < s.build.nlines ∧ s.lines[n]? = some l ∧ s.acceptsEdge n = true ∧ s.takesLine n = true :=
  ⟨presenting (.write 0x04 0x30) edging, _, 0, _, by decide, by decide, step_after _, by decide, rfl, by decide, by decide⟩

theorem test_edging_legal : edging.Legal where
  build_ok := by decide
  presc_lt := by decide
  ow_sync_length := by decide
  lines_length := by decide
  lines_legal := by
    intro l hl
    have h : l = ⟨[true, true], false, 0, 4, 0, false, false⟩ ∨ l = Line.reset 2 := by simpa [edging, pins] using hl
    rcases h with rfl | rfl
    · exact ⟨by decide, by decide⟩
    · exact test_line_reset_legal
  en_lt := by decide
  edge_fall_lt := by decide
  ow_legal := test_reset_legal.ow_legal
  vane_legal := test_reset_legal.vane_legal
  cmean_legal := test_reset_legal.cmean_legal

theorem test_edging_noReset : edging.NoReset := fun i hi => by
  have h : i = ⟨false, 0, 0, 0, true, 0⟩ := by simpa [edging, pins] using hi
  rw [h]

theorem witness_NoEdgeIsLostOrCountedTwice_take : ∃ (s t : State) (n : Nat), s.Legal ∧ s.nextInput.rst = false ∧
    n < s.build.nlines ∧ step s = .next t ∧ s.takesLine n = true ∧ s.acceptsEdge n = true := by
  have h := test_edging_legal
  exact ⟨presenting (.write 0x04 0x30) edging, _, 0, ⟨h.1, h.2, h.3, h.4, h.5, h.6, h.7, h.8, h.9, h.10⟩, by decide, by decide,
    step_after _, by decide, by decide⟩

theorem witness_NoEdgeIsLostOrCountedTwice : ∃ (k : Nat) (s u : State) (n : Nat), s.Legal ∧ s.NoReset ∧
    n < s.build.nlines ∧ Sys2Proof.core.run k s = .next u ∧ (s.line n).count.toNat + k < 2 ^ 32 ∧ s.acceptsEdge n = true :=
  ⟨1, edging, _, 0, test_edging_legal, test_edging_noReset, by decide, run_succ.2 ⟨_, step_after _, rfl⟩, by decide, by decide⟩

theorem witness_EdgesInsideTheDelayAreIgnored : ∃ (k : Nat) (s t u : State) (n : Nat), s.Legal ∧ s.NoReset ∧
    n < s.build.nlines ∧ s.acceptsEdge n = true ∧ step s = .next t ∧ Sys2Proof.core.run k t = .next u ∧
    k + 1 ≤ (s.pcCtrl.dbMs.toNat * s.build.ticksPerMs - 1) * s.build.clkPerTick :=
  ⟨1, edging, _, _, 0, test_edging_legal, test_edging_noReset, by decide, by decide, step_after _,
    run_succ.2 ⟨_, step_after _, rfl⟩, by decide⟩

/-- Two states that agree on each unit in turn and differ elsewhere. -/
theorem witness_UnitsShareNoState : ∃ s s' t t' : State, s ≠ s' ∧ step s = .next t ∧ step s' = .next t' ∧
    s.build = s'.build ∧ s.nextInput = s'.nextInput ∧ s.presc = s'.presc ∧ s.lines = s'.lines ∧ s.pcCtrl = s'.pcCtrl ∧
    s.owSync = s'.owSync ∧ s.owCfg = s'.owCfg ∧ s.ow = s'.ow ∧ s.vaneRref = s'.vaneRref ∧ s.vane = s'.vane ∧
    s.cmean = s'.cmean :=
  ⟨pins true 0 State.reset, pins true 0 { State.reset with irqEn := 7 }, _, _, by decide, step_after _, step_after _, rfl, rfl,
    rfl, rfl, rfl, rfl, rfl, rfl, rfl, rfl, rfl⟩

theorem witness_QuiescentStateIsStable : ∃ s t : State, s.Quiescent ∧ s.nextInput.rst = false ∧
    s.nextTransaction = .idle ∧ step s = .next t :=
  ⟨pins true 0 State.reset, _, ⟨by decide, by decide, by decide⟩, by decide, by decide, step_after _⟩

theorem witness_ReservedBitsReadZero : ∃ (s : State) (n : Nat), s.Legal ∧ s.build.nlines ≤ n ∧ n < 8 :=
  ⟨State.reset, 7, test_reset_legal, by decide, by decide⟩

theorem witness_ResetStateIsLegal : ∃ b : Build, b.wellFormed = true := ⟨Config.referenceBuild, by decide⟩

theorem witness_EveryStepKeepsTheMachineLegal : ∃ s t : State, s.Legal ∧ step s = .next t :=
  ⟨edging, _, test_edging_legal, step_after _⟩

end Sys2Proof.Tests
end

section
/-! PROOFS. What a host's transaction can do to the machine, said once: the ranges of a build, the busy units, the effect
of each command, and the fields a transaction can reach. -/

namespace Sys2Proof.Machine

/-! ### Builds and busy units -/

/-- The parameter ranges of 00_scope R7 as one conjunction. -/
theorem build_wellFormed_iff (b : Build) :
    b.wellFormed = true ↔
      (1 ≤ b.clkPerTick ∧ b.clkPerTick ≤ 65536) ∧ (1 ≤ b.ticksPerMs ∧ b.ticksPerMs ≤ 65536) ∧
        (1 ≤ b.nlines ∧ b.nlines ≤ 8) ∧ b.syncStages ≤ 4 ∧ b.vaneLat ≤ 65536 ∧ b.cmeanLat ≤ 65536 := by
  simp only [Build.wellFormed, Bool.and_eq_true, decide_eq_true_eq]
  tauto

@[simp] theorem owBusy_iff (s : State) : owBusy s = true ↔ s.ow.phase ≠ .idle := by simp [owBusy]

@[simp] theorem vaneBusy_iff (s : State) : vaneBusy s = true ↔ s.vane.cnt ≠ 0 := by simp [vaneBusy]

@[simp] theorem cmeanBusy_iff (s : State) : cmeanBusy s = true ↔ s.cmean.cnt ≠ 0 := by simp [cmeanBusy]

theorem cmeanBusy_eq_false_iff (s : State) : cmeanBusy s = false ↔ s.cmean.cnt = 0 := by simp [cmeanBusy]

/-! ### The effect of a command -/

/-- Everything a command can leave of the start-of-cycle state `s`: a report in the sticky bits alone, or its own effect on
the one unit it names, accepted only when that unit is idle (44_control R221 to R223). -/
inductive CommandEffect (s : State) : Instr → State → Prop
  | report (i : Instr) (k : Sticky) : CommandEffect s i { s with sticky := k }
  | owRead (idle : s.ow.phase = .idle) : CommandEffect s .owRead { s with ow := owAccept s.build s.owCfg s.ow }
  | vaneAtOnce (c : Nat) (idle : s.vane.cnt = 0) (lat : s.build.vaneLat = 0) :
      CommandEffect s (.vaneResolve c)
        { s with
          vane := vaneComplete s.build (BitVec.ofNat 12 c).toNat s.vaneRref.toNat
            (vaneAccept (BitVec.ofNat 12 c) s.vaneRref s.vane)
          irqStatus := irqWith true .vaneDone s.irqStatus }
  | vaneStart (c : Nat) (idle : s.vane.cnt = 0) :
      CommandEffect s (.vaneResolve c)
        { s with vane := { vaneAccept (BitVec.ofNat 12 c) s.vaneRref s.vane with cnt := s.build.vaneLat } }
  | cmeanClear (idle : s.cmean.cnt = 0) :
      CommandEffect s .cmeanClear
        { s with cmean := { s.cmean with n := 0, ssum := 0, csum := 0, valid := false, fault := false } }
  | cmeanAdd (a : Nat) (idle : s.cmean.cnt = 0) (room : s.cmean.n ≠ 0xFFFF) :
      CommandEffect s (.cmeanAdd a) { s with cmean := cmeanAccumulate a s.cmean }
  | cmeanAtOnce (idle : s.cmean.cnt = 0) (lat : s.build.cmeanLat = 0) :
      CommandEffect s .cmeanCompute
        { s with
          cmean := cmeanComplete s.cmean.ssum.toInt s.cmean.csum.toInt
            { s.cmean with valid := false, fault := false }
          irqStatus := irqWith true .cmeanDone s.irqStatus }
  | cmeanStart (idle : s.cmean.cnt = 0) :
      CommandEffect s .cmeanCompute
        { s with cmean := { s.cmean with valid := false, fault := false, cnt := s.build.cmeanLat } }
  | pcTake (n : Nat) (line : n < s.build.nlines) :
      CommandEffect s (.pcTake n) { s with lines := s.lines.set n (takeLine (s.line n)) }

theorem exec_effect {i : Instr} {s t : State} (h : exec i s = .next t) : CommandEffect s i t := by
  cases i with
  | nop => cases h; exact .report .nop s.sticky
  | owRead =>
    cases h
    split_ifs with hb
    · exact .report _ _
    · exact .owRead (by simpa using hb)
  | vaneResolve c =>
    cases h
    split_ifs with hb hl
    · exact .report _ _
    · exact .vaneAtOnce c (by simpa using hb) hl
    · exact .vaneStart c (by simpa using hb)
  | cmeanClear =>
    cases h
    split_ifs with hb
    · exact .report _ _
    · exact .cmeanClear (by simpa using hb)
  | cmeanAdd a =>
    cases h
    split_ifs with hb ha hn
    · exact .report _ _
    · exact .report _ _
    · exact .report _ _
    · exact .cmeanAdd a (by simpa using hb) hn
  | cmeanCompute =>
    cases h
    dsimp only
    split_ifs with hb hl
    · exact .report _ _
    · exact .cmeanAtOnce (by simpa using hb) hl
    · exact .cmeanStart (by simpa using hb)
  | pcTake n =>
    cases h
    split_ifs with hn
    · exact .report _ _
    · exact .pcTake n (by omega)

end Sys2Proof.Machine
end

section
/-! PROOFS. The invariant of the machine: what keeps each unit legal, and that every step keeps the machine legal. -/

namespace Sys2Proof.Machine

/-! ### OW -/

/-- In an idle unit only the bit count and the verdict are at stake. -/
theorem Ow.Legal.of_idle {b : Build} {o : Ow} (idle : o.phase = .idle) (nbits : o.nbits.toNat = dataBits o.win.toNat)
    (valid : o.valid = true →
      o.err = .none ∧ o.nbits = 40 ∧ checksumOk o.acc = true ∧ o.hum = BitVec.ofNat 16 (hum10 o.acc) ∧
        o.temp = BitVec.ofInt 16 (temp10 o.acc))
    (timeout : o.err = .timeout → o.valid = false ∧ o.nbits.toNat < 40 ∧ o.timedOut = true)
    (short : o.err = .short → o.valid = false ∧ o.nbits.toNat < 40 ∧ o.timedOut = false ∧ o.win = o.maxwinL)
    (checksum : o.err = .checksum → o.valid = false ∧ o.nbits = 40 ∧ checksumOk o.acc = false) : o.Legal b where
  low_tcnt := by simp [idle]
  high_tcnt := by simp [idle]
  start_empty := by simp [idle]
  sample_open := by simp [idle]
  nbits_eq := nbits
  busy_blank := by simp [idle]
  valid_means := valid
  timeout_means := timeout
  short_means := short
  checksum_means := checksum

/-- A unit without verdict, timeout and Reading, as it is while a read runs (40_onewire R101). -/
def Ow.Blank (o : Ow) : Prop :=
  o.valid = false ∧ o.err = .none ∧ o.hum = 0 ∧ o.temp = 0 ∧ o.timedOut = false

/-- In a blank unit only the counters of the phase are at stake. -/
theorem Ow.Legal.of_blank {b : Build} {o : Ow} (blank : o.Blank) (nbits : o.nbits.toNat = dataBits o.win.toNat)
    (low : o.phase = .low → 1 ≤ o.tcnt ∧ o.tcnt ≤ 255 * b.ticksPerMs + 1)
    (high : o.phase = .high → 1 ≤ o.tcnt ∧ o.tcnt ≤ 255) (start : o.phase = .low ∨ o.phase = .high → o.win = 0)
    (sample : o.phase = .sample → o.win.toNat < o.maxwinL.toNat ∧ o.cnt.toNat ≤ 254) : o.Legal b where
  low_tcnt := low
  high_tcnt := high
  start_empty := start
  sample_open := sample
  nbits_eq := nbits
  busy_blank := fun _ => blank
  valid_means := by simp [blank.1]
  timeout_means := by simp [blank.2.1]
  short_means := by simp [blank.2.1]
  checksum_means := by simp [blank.2.1]

theorem dataBits_le (w : Nat) : dataBits w ≤ 40 := Nat.min_le_left _ _

/-- One more window adds a bit exactly when it is a data window (40_onewire R106). -/
theorem dataBits_succ (w : Nat) :
    dataBits (w + 1) = if isDataWindow w (dataBits w) then dataBits w + 1 else dataBits w := by
  simp only [isDataWindow, Bool.and_eq_true, decide_eq_true_eq]
  unfold dataBits
  split_ifs <;> omega

/-- `finish` leaves a legal unit: its verdict agrees with the frame, and SHORT comes only after the last window. -/
theorem owFinish_legal (b : Build) {o : Ow} {n : Nat} {timedOut : Bool} (hn : n = o.nbits.toNat)
    (ht : timedOut = o.timedOut) (hbits : o.nbits.toNat = dataBits o.win.toNat)
    (hwin : timedOut = false → o.win = o.maxwinL) : (owFinish o.acc n timedOut o).ow.Legal b := by
  obtain ⟨-, hphase, hacc, hnbits, hw, hmax, -, -, -, hto⟩ := owFinish_frame o.acc n timedOut o
  have hforty : 40 ≤ n → o.nbits = 40 := fun h => by
    have := dataBits_le o.win.toNat
    exact BitVec.eq_of_toNat_eq (by simp; omega)
  have hbits' : (owFinish o.acc n timedOut o).ow.nbits.toNat = dataBits (owFinish o.acc n timedOut o).ow.win.toNat := by
    rw [hnbits, hw, hbits]
  rcases owFinish_verdict o.acc n timedOut o with ⟨hlt, hv, he⟩ | ⟨hge, hc, hv, he⟩ | ⟨hge, hc, hv, he, hhum, htemp⟩
  · have hshort : (owFinish o.acc n timedOut o).ow.nbits.toNat < 40 := by rw [hnbits, ← hn]; exact hlt
    cases timedOut with
    | false =>
      exact .of_idle hphase hbits' (by simp [hv]) (by simp [he])
        (fun _ => ⟨hv, hshort, by rw [hto, ← ht], by rw [hw, hmax, hwin rfl]⟩) (by simp [he])
    | true =>
      exact .of_idle hphase hbits' (by simp [hv]) (fun _ => ⟨hv, hshort, by rw [hto, ← ht]⟩) (by simp [he]) (by simp [he])
  · exact .of_idle hphase hbits' (by simp [hv]) (by simp [he]) (by simp [he])
      fun _ => ⟨hv, by rw [hnbits, hforty hge], by rw [hacc, hc]⟩
  · exact .of_idle hphase hbits'
      (fun _ => ⟨he, hnbits.trans (hforty hge), by rw [hacc, hc], by rw [hacc, hhum], by rw [hacc, htemp]⟩)
      (by simp [he]) (by simp [he]) (by simp [he])

theorem owAccept_legal {b : Build} (cfg : OwCfg) (o : Ow) : (owAccept b cfg o).Legal b := by
  refine .of_blank ⟨rfl, rfl, rfl, rfl, rfl⟩ (by simp [owAccept, dataBits]) (fun _ => ?_) (by simp [owAccept])
    (fun _ => rfl) (by simp [owAccept])
  have : cfg.startLowMs.toNat * b.ticksPerMs ≤ 255 * b.ticksPerMs := Nat.mul_le_mul_right _ (by omega)
  simp only [owAccept]
  omega

theorem owLowTick_legal {b : Build} {o : Ow} (h : o.Legal b) (hp : o.phase = .low) : (owLowTick o).Legal b := by
  have hblank : o.Blank := h.busy_blank (by simp [hp])
  have hwin := h.start_empty (.inl hp)
  have htcnt := h.low_tcnt hp
  unfold owLowTick
  split_ifs with h1
  · exact .of_blank hblank h.nbits_eq (by simp) (fun _ => by dsimp only; omega) (fun _ => hwin) (by simp)
  · exact .of_blank hblank h.nbits_eq (fun _ => by dsimp only; omega) (by simp [hp]) (fun _ => hwin) (by simp [hp])

theorem owHighTick_legal {b : Build} {o : Ow} (h : o.Legal b) (hp : o.phase = .high) : (owHighTick o).ow.Legal b := by
  have hblank : o.Blank := h.busy_blank (by simp [hp])
  have hwin := h.start_empty (.inr hp)
  have htcnt := h.high_tcnt hp
  have hnbits : o.nbits.toNat = 0 := by rw [h.nbits_eq, hwin]; rfl
  unfold owHighTick enterSample
  split_ifs with h1 hmax
  · exact owFinish_legal b hnbits.symm hblank.2.2.2.2.symm h.nbits_eq fun _ => by rw [hwin, hmax]
  · refine .of_blank hblank h.nbits_eq (by simp) (by simp) (by simp) fun _ => ⟨?_, by simp⟩
    have : o.maxwinL.toNat ≠ 0 := fun h0 => hmax (BitVec.eq_of_toNat_eq h0)
    rw [hwin]
    exact Nat.pos_of_ne_zero this
  · exact .of_blank hblank h.nbits_eq (by simp [hp]) (fun _ => by dsimp only; omega) (fun _ => hwin) (by simp [hp])

theorem owSampleTick_legal {b : Build} {o : Ow} (level : Bool) (h : o.Legal b) (hp : o.phase = .sample) :
    (owSampleTick level o).ow.Legal b := by
  have hblank : o.Blank := h.busy_blank (by simp [hp])
  have hopen := h.sample_open hp
  unfold owSampleTick
  dsimp only
  split_ifs with hlevel hcap hlast
  · exact owFinish_legal b rfl rfl h.nbits_eq (by simp)
  · refine .of_blank hblank h.nbits_eq (by simp [hp]) (by simp [hp]) (by simp [hp]) fun _ => ⟨hopen.1, ?_⟩
    simp only [BitVec.toNat_ofNat]
    omega
  all_goals
    obtain ⟨hphase, hwin, hmax, -, -, -, -, hto, hvalid, herr, hhum, htemp, -⟩ := windowEnd_frame o.win.toNat o.cnt.toNat o
    have hsucc : (BitVec.ofNat 7 (o.win.toNat + 1)).toNat = o.win.toNat + 1 := by simp; omega
    have hbits : (windowEnd o.win.toNat o.cnt.toNat o).nbits.toNat = dataBits (o.win.toNat + 1) := by
      rw [windowEnd_nbits, h.nbits_eq, dataBits_succ]
  · refine owFinish_legal b rfl ?_ ?_ fun _ => BitVec.eq_of_toNat_eq ?_
    · simp [hto, hblank.2.2.2.2]
    · simp only [hsucc, hbits]
    · rw [hsucc, hlast, hmax]
  · refine .of_blank ?_ ?_ (by simp [hphase, hp]) (by simp [hphase, hp]) (by simp [hphase, hp]) fun _ => ⟨?_, by simp⟩
    · simpa [Ow.Blank, hto, hvalid, herr, hhum, htemp] using hblank
    · simp only [hsucc, hbits]
    · simp only [hsucc, hmax]
      omega

theorem owUpdate_legal {b : Build} {o : Ow} (tick level : Bool) (h : o.Legal b) : (owUpdate tick level o).ow.Legal b := by
  rcases owUpdate_cases tick level o with
    ⟨-, heq⟩ | ⟨-, -, heq⟩ | ⟨-, hp, heq⟩ | ⟨-, hp, heq⟩ | ⟨-, hp, heq⟩ <;> rw [heq]
  · exact h
  · exact h
  · exact owLowTick_legal h hp
  · exact owHighTick_legal h hp
  · exact owSampleTick_legal level h hp

/-! ### VANE -/

theorem vaneOutWord_zero : vaneOutWord 0 = 0 := by decide

theorem nearestEntry_lt (b : Build) (c r : Nat) : nearestEntry b c r < 16 :=
  scanNearest_range _ 0 1 15 16 (by omega) (by omega)

theorem vaneComplete_legal {b : Build} (c r : Nat) {v : Vane} (hv : v.cnt = 0) : (vaneComplete b c r v).Legal b := by
  rcases vaneComplete_cases b c r v with ⟨-, heq⟩ | ⟨-, heq⟩ <;> rw [heq]
  · exact ⟨by simp [hv], by simp [hv], by simp, by simp, 0, by omega, vaneOutWord_zero.symm⟩
  · exact ⟨by simp [hv], by simp [hv], by simp, by simp, _, nearestEntry_lt b c r, rfl⟩

theorem vaneAccept_legal {b : Build} {v : Vane} (c : BitVec 12) (r : BitVec 24) {n : Nat} (h : v.Legal b)
    (hn : n ≤ b.vaneLat) : ({ vaneAccept c r v with cnt := n } : Vane).Legal b :=
  ⟨hn, fun _ => ⟨rfl, rfl⟩, by simp [vaneAccept], by simp [vaneAccept], h.out_entry⟩

theorem vaneUpdate_legal {b : Build} {v : Vane} (h : v.Legal b) (hbusy : v.cnt ≠ 0) : (vaneUpdate b v).Legal b := by
  obtain ⟨hvalid, hdegen⟩ := h.busy_blank hbusy
  have hle := h.cnt_le
  unfold vaneUpdate
  dsimp only
  split_ifs with hend
  · exact vaneComplete_legal _ _ (by simp [vaneCompletes] at hend; simp [hend])
  · exact ⟨by dsimp only; omega, fun _ => ⟨hvalid, hdegen⟩, h.one_verdict, h.degen_means, h.out_entry⟩

/-! ### CMEAN -/

theorem cmeanOutWord_zero : cmeanOutWord 0 = 0 := by decide

theorem toInt_eq_zero_iff (x : Word) : x.toInt = 0 ↔ x = 0 :=
  ⟨fun h => BitVec.eq_of_toInt_eq (by simpa using h), fun h => by simp [h]⟩

/-- "The sums never wrap": one more term of magnitude at most 16384 (10_state R50). -/
theorem sum_bound_add {x : Word} {z : Int} {m : Nat} (hx : x.toInt.natAbs ≤ 16384 * m) (hz : z.natAbs ≤ 16384)
    (hm : m < 65535) : (x + BitVec.ofInt 32 z).toInt.natAbs ≤ 16384 * (m + 1) := by
  rw [BitVec.toInt_add, BitVec.toInt_ofInt, Int.add_bmod_bmod, Int.bmod_eq_of_le] <;> omega

theorem cmeanComplete_legal {b : Build} {m : Cmean} (hcnt : m.cnt = 0)
    (hs : m.ssum.toInt.natAbs ≤ 16384 * m.n.toNat) (hc : m.csum.toInt.natAbs ≤ 16384 * m.n.toNat) :
    (cmeanComplete m.ssum.toInt m.csum.toInt m).Legal b := by
  rcases cmeanComplete_cases m.ssum.toInt m.csum.toInt m with ⟨hs0, hc0, heq⟩ | ⟨hne, heq⟩ <;> rw [heq]
  · rw [toInt_eq_zero_iff] at hs0 hc0
    exact ⟨by simp [hcnt], by simp [hcnt], hs, hc, fun _ => ⟨rfl, hs0, hc0, rfl⟩, by simp,
      0, by omega, cmeanOutWord_zero.symm⟩
  · simp only [toInt_eq_zero_iff] at hne
    exact ⟨by simp [hcnt], by simp [hcnt], hs, hc, by simp, fun _ => ⟨by tauto, rfl⟩, _, meanDeci_lt _ _, rfl⟩

/-- With both verdicts dropped only the countdown, the sums and CMEAN_OUT are at stake. -/
theorem Cmean.Legal.of_blank {b : Build} {m : Cmean} (hcnt : m.cnt ≤ b.cmeanLat) (hvalid : m.valid = false)
    (hfault : m.fault = false) (hs : m.ssum.toInt.natAbs ≤ 16384 * m.n.toNat)
    (hc : m.csum.toInt.natAbs ≤ 16384 * m.n.toNat) (hout : ∃ r, r < 3600 ∧ m.out = cmeanOutWord r) : m.Legal b :=
  ⟨hcnt, fun _ => ⟨hvalid, hfault⟩, hs, hc, by simp [hfault], by simp [hvalid], hout⟩

theorem cmeanAccumulate_legal {b : Build} {m : Cmean} (a : Nat) (h : m.Legal b) (hn : m.n ≠ 0xFFFF) :
    (cmeanAccumulate a m).Legal b := by
  have hlt : m.n.toNat < 65535 := by
    have : m.n.toNat ≠ 65535 := fun h => hn (BitVec.eq_of_toNat_eq h)
    omega
  have hsucc : (m.n + 1).toNat = m.n.toNat + 1 := by simp [BitVec.toNat_add]; omega
  refine .of_blank h.cnt_le rfl rfl ?_ ?_ h.out_angle <;> simp only [cmeanAccumulate, hsucc]
  · exact sum_bound_add h.ssum_bound (sinq_natAbs_le _) hlt
  · exact sum_bound_add h.csum_bound (cosq_natAbs_le _) hlt

theorem cmeanUpdate_legal {b : Build} {m : Cmean} (h : m.Legal b) (hbusy : m.cnt ≠ 0) : (cmeanUpdate m).Legal b := by
  obtain ⟨hvalid, hfault⟩ := h.busy_blank hbusy
  have hle := h.cnt_le
  unfold cmeanUpdate
  dsimp only
  split_ifs with hend
  · exact cmeanComplete_legal (m := { m with cnt := m.cnt - 1 })
      (by simp [cmeanCompletes] at hend; simp [hend]) h.ssum_bound h.csum_bound
  · exact .of_blank (by dsimp only; omega) hvalid hfault h.ssum_bound h.csum_bound h.out_angle

/-! ### PC -/

theorem lineUpdate_legal {b : Build} {l : Line} (c : PcCtrl) (tick : Bool) (n : Nat) (pin : Bool) (h : l.Legal b) :
    (lineUpdate b c tick n pin l).Legal b where
  sync_length := by simp [h.sync_length]
  tmr_le := by
    have hdb : c.dbMs.toNat * b.ticksPerMs ≤ 255 * b.ticksPerMs := Nat.mul_le_mul_right _ (by omega)
    have hle := h.tmr_le
    rw [lineUpdate_tmr, debounceStep]
    split_ifs <;> omega

theorem linesUpdate_legal {b : Build} (c : PcCtrl) (tick : Bool) (pins : Byte) (n : Nat) {ls : List Line}
    (h : ∀ l ∈ ls, l.Legal b) : ∀ l ∈ linesUpdate b c tick pins n ls, l.Legal b := by
  induction ls generalizing n with
  | nil => simp [linesUpdate]
  | cons l ls ih =>
    simp only [List.forall_mem_cons, linesUpdate] at h ⊢
    exact ⟨lineUpdate_legal c tick n _ h.1, ih _ h.2⟩

/-- The line mask is the NLINES lowest bits (44_control R225). -/
theorem lineMask_getLsbD {b : Build} (hb : b.nlines ≤ 8) (n : Nat) :
    (lineMask b).getLsbD n = decide (n < b.nlines) := by
  rw [lineMask, BitVec.getLsbD_ofNat, Nat.testBit_two_pow_sub_one, ← Bool.decide_and]
  exact decide_eq_decide.2 (by omega)

theorem and_lineMask_lt {b : Build} (hb : b.nlines ≤ 8) (v : BitVec 8) : (v &&& lineMask b).toNat < 2 ^ b.nlines := by
  refine Nat.lt_pow_two_of_testBit _ fun n hn => ?_
  rw [BitVec.testBit_toNat, BitVec.getLsbD_and, lineMask_getLsbD hb]
  simp; omega

/-! ### The machine -/

theorem resetOf_legal {b : Build} (hb : b.wellFormed = true) : (State.resetOf b).Legal where
  build_ok := hb
  presc_lt := ((build_wellFormed_iff b).1 hb).1.1
  ow_sync_length := by simp
  lines_length := by simp
  lines_legal := by
    intro l hl
    rw [resetOf_lines] at hl
    rw [List.eq_of_mem_replicate hl]
    exact ⟨by simp [Line.reset], by simp [Line.reset]⟩
  en_lt := by simp [PcCtrl.reset]
  edge_fall_lt := by simp [PcCtrl.reset]
  ow_legal := .of_idle rfl (by simp [Ow.reset, dataBits]) (by simp [Ow.reset]) (by simp [Ow.reset]) (by simp [Ow.reset])
    (by simp [Ow.reset])
  vane_legal := ⟨by simp [Vane.reset], by simp [Vane.reset], by simp [Vane.reset], by simp [Vane.reset],
    0, by omega, vaneOutWord_zero.symm⟩
  cmean_legal := .of_blank (by simp [Cmean.reset]) rfl rfl (by simp [Cmean.reset]) (by simp [Cmean.reset])
    ⟨0, by omega, cmeanOutWord_zero.symm⟩

theorem afterReset_legal {s : State} (hb : s.build.wellFormed = true) : (afterReset s).Legal :=
  { resetOf_legal hb with }

/-- A register write changes only configuration, sticky bits and IRQ_STATUS, and EN and EDGE_FALL only under the mask. -/
theorem regWrite_legal (r : Reg) (v : Word) {s : State} (hs : s.Legal) : (regWrite r v s).Legal := by
  obtain ⟨-, -, ⟨-, hlines⟩, -⟩ := (build_wellFormed_iff _).1 hs.build_ok
  cases r
  case pcCtrl => exact { hs with en_lt := and_lineMask_lt hlines _, edge_fall_lt := and_lineMask_lt hlines _ }
  all_goals exact { hs with }

theorem commandEffect_legal {i : Instr} {s t : State} (hs : s.Legal) (h : CommandEffect s i t) :
    t.Legal ∧ t.build = s.build := by
  have hc := hs.cmean_legal
  refine ⟨?_, by cases h <;> rfl⟩
  cases h with
  | report => exact { hs with }
  | owRead => exact { hs with ow_legal := owAccept_legal _ _ }
  | vaneAtOnce c idle => exact { hs with vane_legal := vaneComplete_legal _ _ idle }
  | vaneStart => exact { hs with vane_legal := vaneAccept_legal _ _ hs.vane_legal le_rfl }
  | cmeanClear => exact { hs with cmean_legal := .of_blank hc.cnt_le rfl rfl (by simp) (by simp) hc.out_angle }
  | cmeanAdd a _ room => exact { hs with cmean_legal := cmeanAccumulate_legal a hc room }
  | cmeanAtOnce idle =>
    exact { hs with
      cmean_legal := cmeanComplete_legal (m := { s.cmean with valid := false, fault := false }) idle
        hc.ssum_bound hc.csum_bound }
  | cmeanStart => exact { hs with cmean_legal := .of_blank le_rfl rfl rfl hc.ssum_bound hc.csum_bound hc.out_angle }
  | pcTake n hn =>
    refine { hs with lines_length := by simp [hs.lines_length], lines_legal := fun l hl => ?_ }
    rcases List.mem_or_eq_of_mem_set hl with hmem | rfl
    · exact hs.lines_legal l hmem
    · have hlen : n < s.lines.length := hs.lines_length ▸ hn
      have hline := hs.lines_legal _ (List.getElem_mem hlen)
      rw [State.line, List.getD_eq_getElem _ _ hlen]
      exact ⟨hline.sync_length, hline.tmr_le⟩

theorem hostEffect_legal {tr : Transaction} {s t : State} (hs : s.Legal) (h : hostEffect tr s = .next t) :
    t.Legal ∧ t.build = s.build := by
  rcases hostEffect_cases h with rfl | ⟨_, v, r, -, -, -, rfl⟩ | ⟨_, _, i, -, -, -, hexec⟩ | ⟨_, _, _, -, -, -, rfl⟩
  · exact ⟨hs, rfl⟩
  · exact ⟨regWrite_legal r v hs, (regWrite_frame r v s).1⟩
  · exact commandEffect_legal hs (exec_effect hexec)
  · exact ⟨{ hs with }, rfl⟩

/-- The prescaler stays below CLK_PER_TICK and counts modulo it (10_state R24). -/
theorem nextPresc_eq {s : State} (h : s.presc < s.build.clkPerTick) :
    nextPresc s = (s.presc + 1) % s.build.clkPerTick := by
  simp only [nextPresc, State.tick, decide_eq_true_eq]
  split_ifs with htick
  · rw [htick, Nat.sub_add_cancel (by omega), Nat.mod_self]
  · rw [Nat.mod_eq_of_lt (by omega)]

/-- The autonomous updates of the cycle keep legal what a host's transaction left legal. -/
theorem merge_legal (i : Input) {s t : State} (hs : s.Legal) (ht : t.Legal) (hb : t.build = s.build) :
    (merge i s t).Legal where
  build_ok := ht.build_ok
  presc_lt := by
    rw [merge_presc, merge_build, hb, nextPresc_eq hs.presc_lt]
    exact Nat.mod_lt _ (by have := hs.presc_lt; omega)
  ow_sync_length := by simp [hs.ow_sync_length, hb]
  lines_length := by simp [ht.lines_length]
  lines_legal := by
    rw [merge_lines, merge_build, hb]
    exact linesUpdate_legal _ _ _ _ (hb ▸ ht.lines_legal)
  en_lt := ht.en_lt
  edge_fall_lt := ht.edge_fall_lt
  ow_legal := by
    rw [merge_ow, merge_build, owAfter]
    split_ifs
    · exact owUpdate_legal _ _ (hb ▸ hs.ow_legal)
    · exact ht.ow_legal
  vane_legal := by
    rw [merge_vane, merge_build, vaneAfter, hb]
    split_ifs with hbusy
    · exact vaneUpdate_legal hs.vane_legal (by simpa using hbusy)
    · exact hb ▸ ht.vane_legal
  cmean_legal := by
    rw [merge_cmean, merge_build, cmeanAfter, hb]
    split_ifs with hbusy
    · exact cmeanUpdate_legal hs.cmean_legal (by simpa using hbusy)
    · exact hb ▸ ht.cmean_legal

theorem step_legal {s t : State} (hs : s.Legal) (h : step s = .next t) : t.Legal ∧ t.build = s.build := by
  rcases step_cases h with ⟨-, rfl⟩ | ⟨-, u, hu, rfl⟩
  · exact ⟨afterReset_legal hs.build_ok, rfl⟩
  · obtain ⟨hlegal, hbuild⟩ := hostEffect_legal hs hu
    exact ⟨merge_legal _ hs hlegal hbuild, hbuild⟩

/-- Settles O59: the base case of the machine's invariant. -/
theorem resetStateIsLegal : Obligations.ResetStateIsLegal := fun _ hb => resetOf_legal hb

/-- Settles O60: the reset cycle leaves the reset state; in any other cycle the host's transaction, and then every unit's
own update, keeps its unit legal. -/
theorem everyStepKeepsTheMachineLegal : Obligations.EveryStepKeepsTheMachineLegal := fun _ _ hs h => step_legal hs h

end Sys2Proof.Machine
end

section
/-! PROOFS. The register map: which register an offset names, and what a write to it does (10_state R26, R27). -/

namespace Sys2Proof.Machine

/-! ### Offsets -/

/-- Beyond PC_STATUS the map holds the arrays of the lines and the vane ROM (10_state R26). -/
theorem regOfIndex_of_ge (b : Build) {r : Nat} (h : 18 ≤ r) :
    regOfIndex b r =
      if 20 ≤ r ∧ r < 20 + b.nlines then some (.pcCount (r - 20))
      else if 28 ≤ r ∧ r < 28 + b.nlines then some (.pcTaken (r - 28))
      else if 48 ≤ r ∧ r < 64 then some (.vaneRom (r - 48))
      else none := by
  obtain ⟨m, rfl⟩ := Nat.exists_eq_add_of_le' h
  rfl

/-- The register a word number names stands at that word's offset (10_state R26). -/
theorem offset_of_regOfIndex {b : Build} {r : Nat} {reg : Reg} (h : regOfIndex b r = some reg) :
    reg.offset = 4 * r := by
  rcases Nat.lt_or_ge r 18 with hlt | hge
  · interval_cases r <;> (cases h; rfl)
  · rw [regOfIndex_of_ge b hge] at h
    split_ifs at h <;> rw [← Option.some.inj h, Reg.offset] <;> omega

theorem regOf_eq {b : Build} {off : Byte} {r : Nat} (h : off.toNat / 4 = r) : regOf b off = regOfIndex b r := by
  rw [regOf, h]

theorem toNat_ofNat_four_mul {r : Nat} (h : r < 64) : (BitVec.ofNat 8 (4 * r)).toNat / 4 = r := by
  rw [BitVec.toNat_ofNat]
  omega

/-- The reserved word numbers of the map name no register (10_state R27). -/
theorem regOfIndex_eq_none {b : Build} (hb : b.nlines ≤ 8) {r : Nat}
    (h : r = 18 ∨ r = 19 ∨ (36 ≤ r ∧ r < 48) ∨ (20 + b.nlines ≤ r ∧ r < 28) ∨ (28 + b.nlines ≤ r ∧ r < 36)) :
    regOfIndex b r = none := by
  rw [regOfIndex_of_ge b (by omega), if_neg (by omega), if_neg (by omega), if_neg (by omega)]

theorem regOfIndex_vaneRom {b : Build} (hb : b.nlines ≤ 8) {k : Nat} (hk : k < 16) :
    regOfIndex b (48 + k) = some (.vaneRom k) := by
  rw [regOfIndex_of_ge b (by omega), if_neg (by omega), if_neg (by omega), if_pos (by omega), Nat.add_sub_cancel_left]

/-! ### Reads and writes -/

theorem busRead_of_none {s : State} {off : Byte} (h : regOf s.build off = none) : busRead s off = 0 := by
  rw [busRead, h]

theorem busRead_of_some {s : State} {off : Byte} {r : Reg} (h : regOf s.build off = some r) :
    busRead s off = regRead s r := by
  rw [busRead, h]

theorem hostEffect_write_none {s : State} {off : Byte} {v : Word} (h : regOf s.build off = none) :
    hostEffect (.write off v) s = .next s := by
  simp only [hostEffect, h]

theorem hostEffect_write_reg {s : State} {off : Byte} {v : Word} {r : Reg} (h : regOf s.build off = some r)
    (hr : r ≠ .cmd) : hostEffect (.write off v) s = .next (regWrite r v s) := by
  simp only [hostEffect, h]

theorem hostEffect_write_cmd {s : State} {off : Byte} {v : Word} (h : off.toNat / 4 = 1) :
    hostEffect (.write off v) s = issue v s := by
  have hcmd : regOf s.build off = some .cmd := (regOfIndex_eq_cmd_iff _ _).2 h
  simp only [hostEffect, hcmd]

/-- A write to a register at no writable offset changes nothing (10_state R27). -/
theorem regWrite_readOnly {r : Reg} (v : Word) (s : State) (h : r.offset / 4 ∉ [1, 2, 3, 4, 5, 9, 16]) :
    regWrite r v s = s := by
  cases r
  case status => simp [Reg.offset] at h
  case irqEn => simp [Reg.offset] at h
  case irqStatus => simp [Reg.offset] at h
  case owCfg => simp [Reg.offset] at h
  case vaneRref => simp [Reg.offset] at h
  case pcCtrl => simp [Reg.offset] at h
  all_goals rfl

theorem regWrite_sticky {r : Reg} (v : Word) (s : State) (h : r ≠ .status) : (regWrite r v s).sticky = s.sticky := by
  cases r
  case status => exact absurd rfl h
  all_goals rfl

/-- Settles O18: a reserved offset names no register, and a register outside the writable offsets ignores a write. -/
theorem reservedOffsetsAndReadOnlyRegisters : Obligations.ReservedOffsetsAndReadOnlyRegisters := by
  intro s off v hb
  obtain ⟨-, -, ⟨-, hlines⟩, -⟩ := (build_wellFormed_iff _).1 hb
  refine ⟨fun hres => ?_, fun hro => ?_⟩
  · have hnone : regOf s.build off = none :=
      regOfIndex_eq_none hlines (by simpa only [List.mem_cons, List.not_mem_nil, or_false, or_assoc] using hres)
    exact ⟨busRead_of_none hnone, hostEffect_write_none hnone⟩
  · cases hreg : regOf s.build off with
    | none => exact hostEffect_write_none hreg
    | some r =>
      have hindex : r.offset / 4 = off.toNat / 4 := by rw [offset_of_regOfIndex hreg, Nat.mul_div_cancel_left _ (by omega)]
      have hcmd : r ≠ .cmd := fun h => hro (by simp [← hindex, h, Reg.offset])
      rw [hostEffect_write_reg hreg hcmd, regWrite_readOnly v s (hindex ▸ hro)]

end Sys2Proof.Machine
end

section
/-! PROOFS. The timebase, the synchronisers, the output pins and the sticky bits over one cycle and over a run. -/

namespace Sys2Proof.Machine

/-! ### Timebase -/

/-- Over a run without reset the prescaler counts the cycles modulo CLK_PER_TICK (10_state R24). -/
theorem run_presc {k : Nat} {s t : State} (hs : s.Legal) (hr : s.NoReset) (h : Sys2Proof.core.run k s = .next t) :
    t.build = s.build ∧ t.presc = (s.presc + k) % s.build.clkPerTick := by
  induction k generalizing s with
  | zero => cases h; exact ⟨rfl, (Nat.mod_eq_of_lt hs.presc_lt).symm⟩
  | succ k ih =>
    obtain ⟨u, hu, hut⟩ := run_succ.1 h
    obtain ⟨hlegal, hbuild⟩ := step_legal hs hu
    obtain ⟨htb, htp⟩ := ih hlegal (noReset_step s u hr hu) hut
    have hup : u.presc = (s.presc + 1) % s.build.clkPerTick := by
      rcases step_cases hu with ⟨hrst, -⟩ | ⟨-, v, -, rfl⟩
      · simp [nextInput_rst_of_noReset hr] at hrst
      · exact nextPresc_eq hs.presc_lt
    rw [htb, htp, hbuild, hup, Nat.mod_add_mod, Nat.add_assoc, Nat.add_comm 1 k]
    exact ⟨rfl, rfl⟩

/-- A residue is the last one exactly when the next number is a multiple. -/
theorem mod_eq_pred_iff {n c : Nat} (hc : 0 < c) : n % c = c - 1 ↔ (n + 1) % c = 0 := by
  have hlt := Nat.mod_lt n hc
  rw [← Nat.mod_add_mod]
  constructor
  · intro h
    rw [h, Nat.sub_add_cancel hc, Nat.mod_self]
  · intro h
    by_contra hne
    rw [Nat.mod_eq_of_lt (by omega)] at h
    omega

/-- Settles O11, by the prescaler's value along the run. -/
theorem tickEveryClkPerTickCycles : Obligations.TickEveryClkPerTickCycles := by
  intro k s t hs hr h
  obtain ⟨hbuild, hpresc⟩ := run_presc hs hr h
  refine ⟨hpresc, ?_⟩
  rw [State.tick, decide_eq_true_eq, hbuild, hpresc]
  exact mod_eq_pred_iff (by have := hs.presc_lt; omega)

/-! ### Synchronisers -/

/-- The flip-flops after a sequence of pins hold the latest values of the pins and, behind them, of the flip-flops. -/
theorem foldl_syncShift (pins flops : List Bool) :
    pins.foldl (fun f p => syncShift p f) flops = (pins.reverse ++ flops).take flops.length := by
  induction pins generalizing flops with
  | nil => simp
  | cons p ps ih =>
    have hshift : syncShift p flops = (p :: flops).take flops.length := by simp [syncShift, List.dropLast_eq_take]
    rw [List.foldl_cons, ih, syncShift_length, hshift, List.reverse_cons, List.append_assoc, List.singleton_append,
      List.take_append, List.take_append, List.take_take, Nat.min_eq_left (Nat.sub_le _ _)]

theorem getLastD_take {α : Type} (d : α) {l : List α} {n : Nat} (h : n ≤ l.length) :
    (l.take n).getLastD d = (d :: l).getD n d := by
  cases n with
  | zero => simp
  | succ n => simp [List.getLastD_eq_getLast?, List.getLast?_take, List.getElem?_eq_getElem (show n < l.length by omega)]

theorem hostEffect_lines_sync {tr : Transaction} {s t : State} (h : hostEffect tr s = .next t) (n : Nat) :
    (t.lines[n]?).map Line.sync = (s.lines[n]?).map Line.sync := by
  rcases hostEffect_cases h with rfl | ⟨_, v, r, -, -, -, rfl⟩ | ⟨_, _, i, -, -, -, hexec⟩ | ⟨_, _, _, -, -, -, rfl⟩
  · rfl
  · obtain ⟨-, -, -, -, -, -, hlines⟩ := regWrite_frame r v s
    rw [hlines]
  · cases exec_effect hexec
    case pcTake m hm =>
      by_cases hmn : m = n
      · subst hmn
        by_cases hlen : m < s.lines.length <;> simp [State.line, hlen]
      · simp [List.getElem?_set_ne hmn]
    all_goals rfl
  · rfl

/-- Settles O12: the shift of one cycle, and the delay of any number of them. -/
theorem synchroniserDelaysByItsStages : Obligations.SynchroniserDelaysByItsStages := by
  refine ⟨fun s t hrst h => ?_, fun flops pins pin => ?_⟩
  · rcases step_cases h with ⟨hr, -⟩ | ⟨-, u, hu, rfl⟩
    · simp [hrst] at hr
    · refine ⟨rfl, fun n l hl => ?_⟩
      have hsync := hostEffect_lines_sync hu n
      rw [hl, Option.map_some, Option.map_eq_some_iff] at hsync
      obtain ⟨l', hl', heq⟩ := hsync
      refine ⟨_, by rw [merge_lines, linesUpdate_getElem?, hl', Option.map_some], ?_⟩
      rw [lineUpdate_sync, heq, Nat.zero_add]
  · rw [foldl_syncShift]
    have hle : flops.length ≤ (pins.reverse ++ flops).length := by simp
    exact ⟨by rw [List.length_take, Nat.min_eq_left hle], getLastD_take pin hle⟩

/-! ### Output pins -/

/-- `irq` is 1 exactly when some source is raised and enabled (10_state R23, 60_exceptions R233). -/
theorem irqLevel_iff (s : State) :
    irqLevel s = true ↔ ∃ k, k < 3 ∧ s.irqStatus.getLsbD k = true ∧ s.irqEn.getLsbD k = true := by
  rw [irqLevel, decide_eq_true_eq, ← not_iff_not, not_not]
  constructor
  · rintro h ⟨k, -, hst, hen⟩
    have hk : (s.irqStatus &&& s.irqEn).getLsbD k = true := by rw [BitVec.getLsbD_and, hst, hen]; rfl
    simp [h] at hk
  · intro h
    refine BitVec.eq_of_getLsbD_eq fun k hk => ?_
    have hand : (s.irqStatus.getLsbD k && s.irqEn.getLsbD k) ≠ true := fun hne =>
      h ⟨k, hk, Bool.and_eq_true_iff.1 hne⟩
    simpa using hand

/-- The output pins after a step are those of the cycle's input and start-of-cycle state. -/
theorem step_out {s t : State} (h : step s = .next t) : t.out = outputs s.nextInput s := by
  rcases step_cases h with ⟨hr, rfl⟩ | ⟨-, u, -, rfl⟩
  · simp [outputs, hr]
  · rfl

/-- Settles O10. -/
theorem outputPinsAreFunctionsOfTheStartState : Obligations.OutputPinsAreFunctionsOfTheStartState := by
  refine ⟨fun s => ⟨?_, ?_, ?_, ?_⟩, fun s t h => ⟨fun hrst => ?_, fun hrst => ?_⟩⟩
  · intro h; simp [State.nextTransaction, Input.transaction, h]
  · intro h; simp [State.nextTransaction, Input.transaction, h]
  · intro h; simp [State.nextTransaction, Input.transaction, h]
  · intro h; simp [State.nextTransaction, Input.transaction, h]
  · simp [step_out h, outputs, hrst, Outputs.inReset]
  · have hout : t.out = _ := step_out h
    rw [outputs, if_neg (by simp [hrst])] at hout
    rw [hout]
    refine ⟨(Bool.decide_or _ _).symm, rfl, rfl, irqLevel_iff s, fun off hread => ?_, fun hreq => ?_⟩
    · rw [State.nextTransaction] at hread
      simp [hread, rdataPin]
    · simp [Input.transaction, hreq, rdataPin]

/-! ### Sticky bits -/

/-- The sticky bits a command sets: COLLIDE when its unit is busy, else the report of its own rule (60_exceptions R235). -/
def reports (s : State) : Instr → Sticky
  | .nop => Sticky.reset
  | .owRead => { Sticky.reset with collide := owBusy s }
  | .vaneResolve _ => { Sticky.reset with collide := vaneBusy s }
  | .cmeanClear | .cmeanCompute => { Sticky.reset with collide := cmeanBusy s }
  | .cmeanAdd a =>
    { Sticky.reset with
      collide := cmeanBusy s
      cmeanRange := !cmeanBusy s && decide (a > 3599)
      cmeanOvf := !cmeanBusy s && decide (a ≤ 3599) && decide (s.cmean.n = 0xFFFF) }
  | .pcTake n => { Sticky.reset with badcmd := decide (s.build.nlines ≤ n) }

/-- Two sets of sticky bits, bit by bit. -/
def Sticky.or (k r : Sticky) : Sticky :=
  ⟨k.cmeanRange || r.cmeanRange, k.cmeanOvf || r.cmeanOvf, k.badcmd || r.badcmd, k.collide || r.collide⟩

theorem exec_sticky {i : Instr} {s t : State} (h : exec i s = .next t) : t.sticky = s.sticky.or (reports s i) := by
  cases i with
  | nop => cases h; simp [Sticky.or, reports, Sticky.reset]
  | owRead =>
    cases h
    split_ifs with hb <;> simp [Sticky.or, reports, Sticky.reset, hb]
  | vaneResolve c =>
    cases h
    split_ifs with hb <;> simp [Sticky.or, reports, Sticky.reset, hb]
  | cmeanClear =>
    cases h
    split_ifs with hb <;> simp [Sticky.or, reports, Sticky.reset, hb]
  | cmeanAdd a =>
    cases h
    split_ifs with hb ha hn
    · simp [Sticky.or, reports, Sticky.reset, hb]
    · simp [Sticky.or, reports, Sticky.reset, Bool.eq_false_of_not_eq_true hb, ha, Nat.not_le.2 ha]
    · simp [Sticky.or, reports, Sticky.reset, Bool.eq_false_of_not_eq_true hb, Nat.le_of_not_lt ha, hn]
    · simp only [reports, Bool.eq_false_of_not_eq_true hb, decide_eq_false ha, decide_eq_false hn]
      simp [Sticky.or, Sticky.reset]
  | cmeanCompute =>
    cases h
    dsimp only
    split_ifs with hb <;> simp [Sticky.or, reports, Sticky.reset, hb]
  | pcTake n =>
    cases h
    split_ifs with hn
    · simp [Sticky.or, reports, Sticky.reset, decide_eq_true hn]
    · simp [Sticky.or, reports, Sticky.reset, decide_eq_false hn]

/-- The sticky bits after the host's transaction: with the reports of the command of the cycle, with BADCMD for a
reserved word, cleared by a write to STATUS, or unchanged. -/
theorem hostEffect_sticky {tr : Transaction} {s t : State} (h : hostEffect tr s = .next t) :
    (∃ off v i, tr = .write off v ∧ off.toNat / 4 = 1 ∧ decode v = .command i ∧
      t.sticky = s.sticky.or (reports s i)) ∨
    (∃ off v o, tr = .write off v ∧ off.toNat / 4 = 1 ∧ decode v = .reserved o ∧
      t.sticky = { s.sticky with badcmd := true }) ∨
    (∃ off v, tr = .write off v ∧ off.toNat / 4 = 2 ∧ t.sticky = clearSticky v s.sticky) ∨
    ((∀ off v, tr = .write off v → off.toNat / 4 ≠ 1 ∧ off.toNat / 4 ≠ 2) ∧ t.sticky = s.sticky) := by
  cases tr with
  | idle => cases h; exact .inr (.inr (.inr ⟨by simp, rfl⟩))
  | read => cases h; exact .inr (.inr (.inr ⟨by simp, rfl⟩))
  | write off v =>
    by_cases hcmd : off.toNat / 4 = 1
    · rw [hostEffect_write_cmd hcmd, issue] at h
      cases hdec : decode v with
      | command i =>
        rw [hdec] at h
        exact .inl ⟨off, v, i, rfl, hcmd, hdec, exec_sticky h⟩
      | reserved o =>
        rw [hdec] at h
        cases h
        exact .inr (.inl ⟨off, v, o, rfl, hcmd, hdec, rfl⟩)
    · by_cases hst : off.toNat / 4 = 2
      · rw [hostEffect_write_reg (r := .status) (regOf_eq hst) (by simp)] at h
        cases h
        exact .inr (.inr (.inl ⟨off, v, rfl, hst, rfl⟩))
      · refine .inr (.inr (.inr ⟨by rintro _ _ ⟨⟩; exact ⟨hcmd, hst⟩, ?_⟩))
        rcases hostEffect_cases h with
          rfl | ⟨_, _, r, ⟨⟩, hreg, -, rfl⟩ | ⟨_, _, _, ⟨⟩, hoff, -⟩ | ⟨_, _, _, ⟨⟩, hoff, -⟩
        · rfl
        · refine regWrite_sticky v s fun hr => hst ?_
          have := offset_of_regOfIndex hreg
          simp only [hr, Reg.offset] at this
          omega
        · exact absurd hoff hcmd
        · exact absurd hoff hcmd

/-- Settles O22: what the transaction of the cycle does to the sticky bits, read off bit by bit. -/
theorem stickyBitsReportTheCommandOfTheCycle : Obligations.StickyBitsReportTheCommandOfTheCycle := by
  intro s t cleared hrst h hcl
  rcases step_cases h with ⟨hr, -⟩ | ⟨-, u, hu, rfl⟩
  · simp [hrst] at hr
  rw [merge_sticky]
  simp only [hcl, State.Issues, State.nextTransaction]
  rcases hostEffect_sticky hu with
    ⟨off, v, i, htr, hoff, hdec, hk⟩ | ⟨off, v, o, htr, hoff, hdec, hk⟩ | ⟨off, v, htr, hoff, hk⟩ | ⟨hno, hk⟩
  · rw [htr, hk]
    cases i <;> simp [hoff, hdec, Sticky.or, reports, Sticky.reset, and_assoc, cmeanBusy_eq_false_iff]
  · simp [htr, hoff, hdec, hk]
  · simp [htr, hoff, hk, clearSticky, clearIf]
  · have hcmd : ∀ off v (P : Prop), ¬(s.nextInput.transaction = .write off v ∧ off.toNat / 4 = 1 ∧ P) :=
      fun off v P hP => (hno off v hP.1).1 hP.2.1
    have hst : ∀ off v (P : Prop), ¬(s.nextInput.transaction = .write off v ∧ off.toNat / 4 = 2 ∧ P) :=
      fun off v P hP => (hno off v hP.1).2 hP.2.1
    simp [hk, hcmd, hst]

end Sys2Proof.Machine
end

section
/-! PROOFS. What a host reads: STATUS and PC_STATUS bit by bit, the reserved bits, and every register after reset. -/

namespace Sys2Proof.Machine

/-! ### STATUS -/

theorem flagAt_getLsbD (b : Bool) {j : Nat} (hj : j < 32) (k : Nat) :
    (flagAt b j).getLsbD k = (b && decide (j = k)) := by
  cases b
  · simp [flagAt]
  · simp only [flagAt, if_true, BitVec.getLsbD_ofNat, Nat.testBit_two_pow, Bool.true_and, ← Bool.decide_and]
    exact decide_eq_decide.2 (by omega)

/-- The two bits of OW_ERR as flags of STATUS (10_state R33). -/
theorem owErr_flags (e : OwErr) :
    BitVec.ofNat 32 (2 ^ 2 * e.code) =
      flagAt (decide (e = .timeout ∨ e = .short)) 2 ||| flagAt (decide (e = .checksum ∨ e = .short)) 3 := by
  cases e <;> decide

/-- STATUS as the disjunction of its flags, each at its own bit. -/
theorem statusWord_getLsbD (s : State) (k : Nat) :
    (statusWord s).getLsbD k =
      (owBusy s && decide (0 = k) || s.ow.valid && decide (1 = k) ||
        (decide (s.ow.err = .timeout ∨ s.ow.err = .short) && decide (2 = k) ||
          decide (s.ow.err = .checksum ∨ s.ow.err = .short) && decide (3 = k)) ||
        vaneBusy s && decide (4 = k) || s.vane.valid && decide (5 = k) || s.vane.degen && decide (6 = k) ||
        cmeanBusy s && decide (8 = k) || s.cmean.valid && decide (9 = k) || s.cmean.fault && decide (10 = k) ||
        s.sticky.cmeanRange && decide (11 = k) || s.sticky.cmeanOvf && decide (12 = k) ||
        s.sticky.badcmd && decide (16 = k) || s.sticky.collide && decide (17 = k)) := by
  simp only [statusWord, owErr_flags, BitVec.getLsbD_or]
  repeat rw [flagAt_getLsbD _ (by omega)]

/-- Settles O15: at each bit one flag is left of the disjunction, and none at the other bits. -/
theorem statusReadShowsEveryFlag : Obligations.StatusReadShowsEveryFlag := by
  intro s k
  rw [busRead_of_some (r := .status) rfl, regRead, statusWord_getLsbD]
  split
  case h_15 h0 h1 h2 h3 h4 h5 h6 h8 h9 h10 h11 h12 h16 h17 =>
    simp [Ne.symm h0, Ne.symm h1, Ne.symm h2, Ne.symm h3, Ne.symm h4, Ne.symm h5, Ne.symm h6, Ne.symm h8, Ne.symm h9,
      Ne.symm h10, Ne.symm h11, Ne.symm h12, Ne.symm h16, Ne.symm h17]
  all_goals simp [owBusy, vaneBusy, cmeanBusy]

/-! ### PC_STATUS -/

theorem packBits_testBit (bs : List Bool) (n : Nat) : (packBits bs).testBit n = bs.getD n false := by
  induction bs generalizing n with
  | nil => simp [packBits]
  | cons b bs ih =>
    have hb : b.toNat < 2 ^ 1 := by cases b <;> decide
    rw [packBits, Nat.add_comm, ← pow_one 2, Nat.testBit_two_pow_mul_add _ hb]
    cases n with
    | zero => cases b <;> simp
    | succ n => simp [ih]

/-- The flags of the lines, packed from bit `j` on. -/
theorem packBits_getLsbD (j : Nat) (bs : List Bool) (k : Nat) :
    (BitVec.ofNat 32 (2 ^ j * packBits bs)).getLsbD k = (decide (k < 32) && (decide (j ≤ k) && bs.getD (k - j) false)) := by
  rw [BitVec.getLsbD_ofNat, Nat.testBit_two_pow_mul, packBits_testBit]

/-- A flag of every line of the machine, in a list as PC_STATUS packs it. -/
theorem lineFlags_getD {s : State} (hs : s.lines.length = s.build.nlines) (f : Line → Bool) (n : Nat) :
    ((s.lines.take s.build.nlines).map f).getD n false = (decide (n < s.build.nlines) && f (s.line n)) := by
  rw [← hs, List.take_length, State.line]
  by_cases h : n < s.lines.length <;> simp [h]

/-- PC_STATUS as the disjunction of its three groups of line flags (10_state R46). -/
theorem pcStatusWord_getLsbD {s : State} (hs : s.lines.length = s.build.nlines) (k : Nat) :
    (pcStatusWord s).getLsbD k =
      (decide (k < 32) &&
        (decide (k < s.build.nlines) && decide ((s.line k).tmr ≠ 0) ||
          decide (8 ≤ k) && (decide (k - 8 < s.build.nlines) && (s.line (k - 8)).ovf) ||
          decide (16 ≤ k) && (decide (k - 16 < s.build.nlines) && (s.line (k - 16)).tovf))) := by
  have htmr := packBits_getLsbD 0 ((s.lines.take s.build.nlines).map fun l => decide (l.tmr ≠ 0)) k
  rw [pow_zero, Nat.one_mul] at htmr
  simp only [pcStatusWord, BitVec.getLsbD_or, htmr, packBits_getLsbD, Nat.sub_zero, lineFlags_getD hs, Nat.zero_le,
    decide_true, Bool.true_and, Bool.and_or_distrib_left]

/-- Settles O16: with at most 8 lines the three groups do not overlap. -/
theorem pcStatusReadShowsEveryLine : Obligations.PcStatusReadShowsEveryLine := by
  intro s k hs
  obtain ⟨-, -, ⟨-, hlines⟩, -⟩ := (build_wellFormed_iff _).1 hs.build_ok
  rw [busRead_of_some (r := .pcStatus) rfl, regRead, pcStatusWord_getLsbD hs.lines_length]
  split_ifs with h8 h16 h24
  · simp [show k < 32 by omega, show ¬8 ≤ k by omega, show ¬16 ≤ k by omega]
  · simp [show k < 32 by omega, show 8 ≤ k by omega, show ¬16 ≤ k by omega, show ¬k < s.build.nlines by omega]
  · simp [show k < 32 by omega, show 16 ≤ k by omega, show ¬k < s.build.nlines by omega,
      show ¬k - 8 < s.build.nlines by omega]
  · simp [show ¬k < s.build.nlines by omega, show ¬k - 8 < s.build.nlines by omega,
      show ¬k - 16 < s.build.nlines by omega]

/-! ### Reserved bits -/

theorem getLsbD_eq_false_of_lt {w n m : Nat} {x : BitVec w} (h : x.toNat < 2 ^ n) (hn : n ≤ m) : x.getLsbD m = false := by
  rw [← BitVec.testBit_toNat]
  exact Nat.testBit_lt_two_pow (lt_of_lt_of_le h (Nat.pow_le_pow_right (by omega) hn))

/-- Masking with the bits from `n` on leaves nothing of a number of `n` bits. -/
theorem and_highBits {x : Word} (n : Nat) (h : x.toNat < 2 ^ n) : x &&& BitVec.allOnes 32 <<< n = 0 := by
  refine BitVec.eq_of_getLsbD_eq fun k hk => ?_
  by_cases hkn : k < n
  · simp [hkn]
  · simp [getLsbD_eq_false_of_lt h (Nat.le_of_not_lt hkn)]

theorem and_mask_eq_zero {x m : Word} (h : ∀ k, k < 32 → m.getLsbD k = true → x.getLsbD k = false) : x &&& m = 0 := by
  refine BitVec.eq_of_getLsbD_eq fun k hk => ?_
  rw [BitVec.getLsbD_and]
  cases hm : m.getLsbD k
  · simp
  · simp [h k hk hm]

theorem setWidth_lt {n : Nat} (x : BitVec n) : (BitVec.setWidth 32 x).toNat < 2 ^ n := by
  rw [BitVec.toNat_setWidth]
  exact lt_of_le_of_lt (Nat.mod_le _ _) x.isLt

theorem vaneOutWord_reserved : ∀ k, k < 16 → vaneOutWord k &&& 0xF000FFC0 = 0 := by decide

theorem cmeanOutWord_getLsbD {r : Nat} (hr : r < 3600) (k : Nat) :
    (cmeanOutWord r).getLsbD k =
      (decide (k < 32) && if k < 16 then r.testBit k else (sector r).code.testBit (k - 16)) := by
  rw [cmeanOutWord, BitVec.getLsbD_ofNat, Nat.testBit_two_pow_mul_add _ (by omega)]

theorem sector_code_lt (c : Sector) : c.code < 4 := by cases c <;> decide

theorem cmeanOutWord_reserved {r : Nat} (hr : r < 3600) : cmeanOutWord r &&& 0xFFFCF000 = 0 := by
  refine and_mask_eq_zero fun k hk hm => ?_
  have hbits : ∀ k, k < 32 → (0xFFFCF000 : Word).getLsbD k = true → (12 ≤ k ∧ k < 16) ∨ 18 ≤ k := by decide
  rw [cmeanOutWord_getLsbD hr]
  rcases hbits k hk hm with ⟨h12, h16⟩ | h18
  · have : 2 ^ 12 ≤ 2 ^ k := Nat.pow_le_pow_right (by omega) h12
    simp [h16, Nat.testBit_lt_two_pow (show r < 2 ^ k by omega)]
  · have hcode := sector_code_lt (sector r)
    have : 2 ^ 2 ≤ 2 ^ (k - 16) := Nat.pow_le_pow_right (by omega) (by omega)
    simp [show ¬k < 16 by omega, Nat.testBit_lt_two_pow (show (sector r).code < 2 ^ (k - 16) by omega)]

theorem statusWord_reserved (s : State) : statusWord s &&& 0xFFFCE080 = 0 := by
  refine and_mask_eq_zero fun k hk hm => ?_
  have hbits : ∀ k, k < 32 → (0xFFFCE080 : Word).getLsbD k = true → k = 7 ∨ (13 ≤ k ∧ k < 16) ∨ 18 ≤ k := by decide
  have hk := hbits k hk hm
  have hstatus := statusReadShowsEveryFlag s k
  rw [busRead_of_some (r := .status) rfl, regRead] at hstatus
  rw [hstatus]
  split
  case h_15 => rfl
  all_goals omega

theorem pcStatusWord_reserved {s : State} (hs : s.Legal) : pcStatusWord s &&& 0xFF000000 = 0 := by
  refine and_mask_eq_zero fun k hk hm => ?_
  have hbits : ∀ k, k < 32 → (0xFF000000 : Word).getLsbD k = true → 24 ≤ k := by decide
  have hk := hbits k hk hm
  have hstatus := pcStatusReadShowsEveryLine s k hs
  rw [busRead_of_some (r := .pcStatus) rfl, regRead] at hstatus
  rw [hstatus, if_neg (by omega), if_neg (by omega), if_neg (by omega)]

/-- EN and EDGE_FALL of line `n` in PC_CTRL (10_state R45). -/
theorem pcCtrlWord_getLsbD (c : PcCtrl) {n : Nat} (hn : n < 8) :
    (pcCtrlWord c).getLsbD n = c.en.getLsbD n ∧ (pcCtrlWord c).getLsbD (8 + n) = c.edgeFall.getLsbD n := by
  have hword : c.en.toNat + 2 ^ 8 * c.edgeFall.toNat + 2 ^ 16 * c.dbMs.toNat =
      2 ^ 8 * (2 ^ 8 * c.dbMs.toNat + c.edgeFall.toNat) + c.en.toNat := by ring
  rw [pcCtrlWord, hword, BitVec.getLsbD_ofNat, BitVec.getLsbD_ofNat, Nat.testBit_two_pow_mul_add _ c.en.isLt,
    Nat.testBit_two_pow_mul_add _ c.en.isLt, if_pos hn, if_neg (by omega), Nat.add_sub_cancel_left,
    Nat.testBit_two_pow_mul_add _ c.edgeFall.isLt, if_pos hn]
  simp [show n < 32 by omega, show 8 + n < 32 by omega, BitVec.testBit_toNat]

/-- A register word built as one number below a bound has no bit beyond it. -/
theorem ofNat_lt {n m : Nat} (h : m < 2 ^ n) : (BitVec.ofNat 32 m).toNat < 2 ^ n := by
  rw [BitVec.toNat_ofNat]
  exact lt_of_le_of_lt (Nat.mod_le _ _) h

theorem owCfgWord_lt (c : OwCfg) : (owCfgWord c).toNat < 2 ^ 31 := ofNat_lt (by omega)

theorem pcCtrlWord_lt (c : PcCtrl) : (pcCtrlWord c).toNat < 2 ^ 24 := ofNat_lt (by omega)

theorem owRaw1Word_lt (o : Ow) : (owRaw1Word o).toNat < 2 ^ 23 := ofNat_lt (by omega)

theorem pcCtrlWord_noLine {s : State} (hs : s.Legal) {n : Nat} (hn : s.build.nlines ≤ n) (h8 : n < 8) :
    (pcCtrlWord s.pcCtrl).getLsbD n = false ∧ (pcCtrlWord s.pcCtrl).getLsbD (8 + n) = false := by
  obtain ⟨hen, hedge⟩ := pcCtrlWord_getLsbD s.pcCtrl h8
  rw [hen, hedge]
  exact ⟨getLsbD_eq_false_of_lt hs.en_lt hn, getLsbD_eq_false_of_lt hs.edge_fall_lt hn⟩

theorem pcStatusWord_noLine {s : State} (hs : s.Legal) {n : Nat} (hn : s.build.nlines ≤ n) (h8 : n < 8) :
    (pcStatusWord s).getLsbD n = false ∧ (pcStatusWord s).getLsbD (8 + n) = false ∧
      (pcStatusWord s).getLsbD (16 + n) = false := by
  have hbit := fun k => pcStatusReadShowsEveryLine s k hs
  simp only [busRead_of_some (r := .pcStatus) (s := s) (off := 0x44) rfl, regRead] at hbit
  simp [hbit, h8, show ¬8 + n < 8 by omega, show 8 + n < 16 by omega, show ¬16 + n < 8 by omega,
    show ¬16 + n < 16 by omega, show 16 + n < 24 by omega, Nat.not_lt.2 hn]

/-- Settles O58: the fields of a register fill its word from bit 0 up, or its reserved bits are those no flag uses. -/
theorem reservedBitsReadZero : Obligations.ReservedBitsReadZero := by
  intro s hs
  obtain ⟨k, hk, hvane⟩ := hs.vane_legal.out_entry
  obtain ⟨r, hr, hcmean⟩ := hs.cmean_legal.out_angle
  refine ⟨statusWord_reserved s, and_highBits 3 (setWidth_lt s.irqEn), and_highBits 3 (setWidth_lt s.irqStatus),
    and_highBits 31 (owCfgWord_lt _), and_highBits 23 (owRaw1Word_lt _), and_highBits 24 (setWidth_lt s.vaneRref), ?_,
    and_highBits 16 (setWidth_lt s.cmean.n), ?_, and_highBits 24 (pcCtrlWord_lt _), pcStatusWord_reserved hs,
    fun n hn h8 => ?_⟩
  · rw [busRead_of_some (r := .vaneOut) rfl, regRead, hvane]
    exact vaneOutWord_reserved k hk
  · rw [busRead_of_some (r := .cmeanOut) rfl, regRead, hcmean]
    exact cmeanOutWord_reserved hr
  · obtain ⟨hen, hedge⟩ := pcCtrlWord_noLine hs hn h8
    exact ⟨hen, hedge, pcStatusWord_noLine hs hn h8⟩

/-! ### After reset -/

/-- Every line number of the reset machine shows a line at reset. -/
theorem resetOf_line (b : Build) (n : Nat) : ∃ stages, (State.resetOf b).line n = Line.reset stages := by
  by_cases h : n < b.nlines
  · exact ⟨b.syncStages, by simp [State.line, h]⟩
  · exact ⟨0, by simp [State.line, h]⟩

theorem statusWord_resetOf (b : Build) : statusWord (State.resetOf b) = 0 := by
  simp [statusWord, flagAt, owBusy, vaneBusy, cmeanBusy, Ow.reset, Vane.reset, Cmean.reset, Sticky.reset, OwErr.code]

theorem pcStatusWord_resetOf (b : Build) : pcStatusWord (State.resetOf b) = 0 := by
  refine BitVec.eq_of_getLsbD_eq fun k hk => ?_
  have hline : ∀ n, ((State.resetOf b).line n).tmr = 0 ∧ ((State.resetOf b).line n).ovf = false ∧
      ((State.resetOf b).line n).tovf = false := fun n => by
    obtain ⟨stages, h⟩ := resetOf_line b n
    exact h ▸ ⟨rfl, rfl, rfl⟩
  rw [pcStatusWord_getLsbD (by simp)]
  simp [hline]

/-- After reset every register but ID, OW_CFG, PC_CTRL and the vane ROM reads 0 (10_state R56). -/
theorem regRead_resetOf {b : Build} {r : Reg} (hid : r ≠ .id) (hcfg : r ≠ .owCfg) (hctrl : r ≠ .pcCtrl)
    (hrom : ∀ k, r ≠ .vaneRom k) : regRead (State.resetOf b) r = 0 := by
  cases r
  case id => exact absurd rfl hid
  case owCfg => exact absurd rfl hcfg
  case pcCtrl => exact absurd rfl hctrl
  case vaneRom k => exact absurd rfl (hrom k)
  case status => exact statusWord_resetOf b
  case pcStatus => exact pcStatusWord_resetOf b
  case pcCount n =>
    obtain ⟨stages, h⟩ := resetOf_line b n
    rw [regRead, h, Line.reset]
  case pcTaken n =>
    obtain ⟨stages, h⟩ := resetOf_line b n
    rw [regRead, h, Line.reset]
  all_goals rfl

theorem idWord_eq {b : Build} (hb : b.nlines ≤ 8) : idWord b = BitVec.ofNat 32 (0x57440001 + 256 * b.nlines) := by
  rw [idWord]
  generalize b.nlines = n at hb ⊢
  interval_cases n <;> rfl

theorem owCfgWord_reset : owCfgWord OwCfg.reset = 0x5528122E := by decide

theorem pcCtrlWord_reset : pcCtrlWord PcCtrl.reset = 0x00320000 := by decide

/-- Settles O8: each register is found by its word number and read in the reset state. -/
theorem resetRegisterValues : Obligations.ResetRegisterValues := by
  intro b hb
  obtain ⟨-, -, ⟨-, hlines⟩, -⟩ := (build_wellFormed_iff _).1 hb
  refine ⟨(busRead_of_some (r := .id) rfl).trans (idWord_eq hlines),
    (busRead_of_some (r := .owCfg) rfl).trans owCfgWord_reset, (busRead_of_some (r := .pcCtrl) rfl).trans pcCtrlWord_reset,
    fun k hk => ?_, fun r hr h0 h5 h16 => ?_⟩
  · have hrom : regOf b (BitVec.ofNat 8 (0xC0 + 4 * k)) = some (.vaneRom k) := by
      rw [show 0xC0 + 4 * k = 4 * (48 + k) by omega, regOf_eq (toNat_ofNat_four_mul (by omega)),
        regOfIndex_vaneRom hlines hk]
    rw [busRead_of_some hrom, regRead, resetOf_build]
  · have hindex : regOf b (BitVec.ofNat 8 (4 * r)) = regOfIndex b r := regOf_eq (toNat_ofNat_four_mul (by omega))
    cases hreg : regOfIndex b r with
    | none => exact busRead_of_none (hindex.trans hreg)
    | some reg =>
      have hoff := offset_of_regOfIndex hreg
      rw [busRead_of_some (hindex.trans hreg)]
      refine regRead_resetOf ?_ ?_ ?_ fun k => ?_ <;> rintro rfl <;> simp only [Reg.offset] at hoff <;> omega

/-- Settles O9: the fields of the reset state, and every line of it at reset. -/
theorem resetHiddenState : Obligations.ResetHiddenState := by
  intro b
  refine ⟨rfl, rfl, rfl, rfl, rfl, rfl, rfl, rfl, rfl, rfl, rfl, rfl, rfl, rfl, fun n hn => ?_, rfl, rfl, rfl⟩
  rw [resetOf_lines, List.getElem?_replicate_of_lt hn, Line.reset]

end Sys2Proof.Machine
end

section
/-! PROOFS. The register port (20_memory R61 to R69): which part of an offset counts, the byte lanes of a word, the read
that changes nothing, and the configuration that reads back. -/

namespace Sys2Proof.Machine

/-! ### The offset -/

/-- Two offsets with the same bits[7:2] have the same word number. -/
theorem wordNumber_congr {a b : Byte} (h : a.extractLsb' 2 6 = b.extractLsb' 2 6) : a.toNat / 4 = b.toNat / 4 := by
  have hnat := congrArg BitVec.toNat h
  simp only [BitVec.extractLsb'_toNat, Nat.shiftRight_eq_div_pow] at hnat
  omega

theorem busRead_congr {a b : Byte} (s : State) (h : a.toNat / 4 = b.toNat / 4) : busRead s a = busRead s b := by
  rw [busRead, busRead, regOf, regOf, h]

theorem hostEffect_write_congr {a b : Byte} (v : Word) (s : State) (h : a.toNat / 4 = b.toNat / 4) :
    hostEffect (.write a v) s = hostEffect (.write b v) s := by
  simp only [hostEffect, regOf, h]

/-- Settles O14: reads and writes see an offset only through its word number. -/
theorem addressLowBitsAreIgnored : Obligations.AddressLowBitsAreIgnored := fun s _ _ v h =>
  ⟨busRead_congr s (wordNumber_congr h), hostEffect_write_congr v s (wordNumber_congr h)⟩

/-! ### Byte lanes -/

/-- A byte appended at the low end. -/
theorem toNat_append_byte {n : Nat} (x : BitVec n) (b : Byte) : (x ++ b).toNat = 2 ^ 8 * x.toNat + b.toNat := by
  rw [BitVec.toNat_append, ← Nat.shiftLeft_add_eq_or_of_lt b.isLt, Nat.shiftLeft_eq, Nat.mul_comm]

/-- Four bytes weighted as the fields of a register are the word with these lanes, least significant first. -/
theorem ofNat_eq_lanes (b0 b1 b2 b3 : Byte) :
    BitVec.ofNat 32 (b0.toNat + 2 ^ 8 * b1.toNat + 2 ^ 16 * b2.toNat + 2 ^ 24 * b3.toNat) = b3 ++ b2 ++ b1 ++ b0 := by
  refine BitVec.eq_of_toNat_eq ?_
  rw [toNat_append_byte, toNat_append_byte, toNat_append_byte, BitVec.toNat_ofNat]
  omega

/-- A word is its four byte lanes. -/
theorem word_eq_lanes (w : Word) :
    w = w.extractLsb' 24 8 ++ w.extractLsb' 16 8 ++ w.extractLsb' 8 8 ++ w.extractLsb' 0 8 := by
  refine BitVec.eq_of_toNat_eq ?_
  rw [toNat_append_byte, toNat_append_byte, toNat_append_byte]
  simp only [BitVec.extractLsb'_toNat, Nat.shiftRight_eq_div_pow]
  omega

/-- Lane `j` of register `r` is the byte at BASE + 4r + j (20_memory R65). -/
theorem byteAt_lane (s : State) {r j : Nat} (hr : r < 64) (hj : j < 4) :
    s.byteAt (s.build.base + 4 * r + j) = some ((busRead s (BitVec.ofNat 8 (4 * r))).extractLsb' (8 * j) 8) := by
  have hoff : s.build.base + 4 * r + j - s.build.base = 4 * r + j := by omega
  have hword : (BitVec.ofNat 8 (4 * r + j)).toNat / 4 = (BitVec.ofNat 8 (4 * r)).toNat / 4 := by
    rw [BitVec.toNat_ofNat, BitVec.toNat_ofNat]
    omega
  rw [State.byteAt, if_pos (by omega)]
  dsimp only
  rw [hoff, busRead_congr s hword, show (4 * r + j) % 4 = j by omega]

/-- Settles O23: the four lanes of a register make up its word, and the block holds 256 bytes. -/
theorem byteLanesAreLittleEndian : Obligations.ByteLanesAreLittleEndian := by
  intro s
  refine ⟨fun r hr => ?_, fun a ha => ?_⟩
  · exact ⟨_, _, _, _, byteAt_lane s hr (j := 0) (by omega), byteAt_lane s hr (by omega), byteAt_lane s hr (by omega),
      byteAt_lane s hr (by omega), word_eq_lanes _⟩
  · rw [State.byteAt, if_neg (by omega)]

/-! ### A read changes nothing -/

/-- A step without reset is the host's transaction, merged. -/
theorem step_of_hostEffect {s t : State} (hrst : s.nextInput.rst = false)
    (h : hostEffect s.nextInput.transaction s = .next t) : step s = .next (merge s.nextInput s t) := by
  rw [step, if_neg (by simp [hrst]), runCycle, h]

theorem presenting_rst (tr : Transaction) (s : State) : (presenting tr s).nextInput.rst = false :=
  withTransaction_rst _ tr

theorem presenting_transaction (tr : Transaction) (s : State) : (presenting tr s).nextInput.transaction = tr :=
  transaction_withTransaction _ tr

/-- A presented transaction is no part of what a register reads. -/
theorem busRead_presenting (tr : Transaction) (s : State) (off : Byte) :
    busRead (presenting tr s) off = busRead s off := by
  cases h : regOf s.build off with
  | none => rw [busRead_of_none h, busRead_of_none (s := presenting tr s) h]
  | some r =>
    rw [busRead_of_some h, busRead_of_some (s := presenting tr s) h]
    cases r <;> rfl

/-- When the host leaves the state alone, the bus pins of a cycle reach nothing but its output pins. -/
theorem merge_presenting_out (tr tr' : Transaction) (s : State) :
    { merge (presenting tr s).nextInput (presenting tr s) (presenting tr s) with
      out := (merge (presenting tr' s).nextInput (presenting tr' s) (presenting tr' s)).out } =
      merge (presenting tr' s).nextInput (presenting tr' s) (presenting tr' s) := by
  have how : (presenting tr s).nextInput.owIn = (presenting tr' s).nextInput.owIn :=
    (withTransaction_owIn _ tr).trans (withTransaction_owIn _ tr').symm
  have hpc : (presenting tr s).nextInput.pcIn = (presenting tr' s).nextInput.pcIn :=
    (withTransaction_pcIn _ tr).trans (withTransaction_pcIn _ tr').symm
  simp only [merge, irqAfter, owAfter, how, hpc]
  rfl

/-- Settles O13: the host's effect of a read is that of an idle cycle, and only `bus_rdata` shows the difference. -/
theorem readHasNoSideEffect : Obligations.ReadHasNoSideEffect := by
  intro s off
  have hread := step_of_hostEffect (presenting_rst (.read off) s) (by rw [presenting_transaction]; rfl)
  have hidle := step_of_hostEffect (presenting_rst .idle s) (by rw [presenting_transaction]; rfl)
  refine ⟨_, _, hread, hidle, ?_, merge_presenting_out _ _ s⟩
  rw [merge_out, outputs, if_neg (by simp [presenting_rst]), presenting_transaction]
  exact busRead_presenting _ s off

/-! ### Configuration reads back -/

/-- A write to a register other than CMD, over the whole cycle: the register write, merged with the units' updates. -/
theorem step_write_reg {s t : State} {off : Byte} {v : Word} {r : Reg} (hrst : s.nextInput.rst = false)
    (htr : s.nextTransaction = .write off v) (hreg : regOf s.build off = some r) (hr : r ≠ .cmd)
    (h : step s = .next t) : t = merge s.nextInput s (regWrite r v s) := by
  have hstep := step_of_hostEffect hrst ((congrArg (hostEffect · s) htr).trans (hostEffect_write_reg hreg hr))
  rw [hstep] at h
  cases h
  rfl

/-- What a read of the same offset returns after that cycle. -/
theorem busRead_after_write {s t : State} {off : Byte} {v : Word} {r : Reg} (hrst : s.nextInput.rst = false)
    (htr : s.nextTransaction = .write off v) (hreg : regOf s.build off = some r) (hr : r ≠ .cmd)
    (h : step s = .next t) : busRead t off = regRead (merge s.nextInput s (regWrite r v s)) r := by
  have ht := step_write_reg hrst htr hreg hr h
  have hbuild : t.build = s.build := by
    rw [ht, merge_build]
    exact (regWrite_frame r v s).1
  rw [busRead_of_some (hbuild ▸ hreg), ht]

/-- The low `n` bits of a word, kept alone in a word. -/
theorem setWidth_extractLsb' (v : Word) (n : Nat) :
    BitVec.setWidth 32 (v.extractLsb' 0 n) = v &&& BitVec.ofNat 32 (2 ^ n - 1) := by
  refine BitVec.eq_of_getLsbD_eq fun k hk => ?_
  simp only [BitVec.getLsbD_setWidth, BitVec.getLsbD_extractLsb', BitVec.getLsbD_and, BitVec.getLsbD_ofNat,
    Nat.testBit_two_pow_sub_one, Nat.zero_add, hk, decide_true, Bool.true_and, Bool.and_comm]

/-- OW_CFG reads back every field, and 0 in bit 31 (10_state R28, R35). -/
theorem owCfgWord_owCfgOf (v : Word) : owCfgWord (owCfgOf v) = v &&& 0x7FFFFFFF := by
  rw [show (0x7FFFFFFF : Word) = BitVec.ofNat 32 (2 ^ 31 - 1) by decide, ← setWidth_extractLsb']
  refine BitVec.eq_of_toNat_eq ?_
  simp only [owCfgWord, owCfgOf, BitVec.toNat_ofNat, BitVec.toNat_setWidth, BitVec.extractLsb'_toNat,
    Nat.shiftRight_eq_div_pow]
  omega

/-- The bits of PC_CTRL that a build with NLINES lines keeps: the line mask in EN and EDGE_FALL, and all of DB_MS. -/
theorem pcCtrl_mask {b : Build} (hb : b.nlines ≤ 8) :
    BitVec.ofNat 32 (0xFF0000 + 257 * (2 ^ b.nlines - 1)) = (0 : Byte) ++ (0xFF : Byte) ++ lineMask b ++ lineMask b := by
  have hmask : (lineMask b).toNat = 2 ^ b.nlines - 1 := by
    have hle : 2 ^ b.nlines ≤ 2 ^ 8 := Nat.pow_le_pow_right (by omega) hb
    rw [lineMask, BitVec.toNat_ofNat, Nat.mod_eq_of_lt (by omega)]
  rw [← ofNat_eq_lanes, hmask, show (0 : Byte).toNat = 0 from rfl, show (0xFF : Byte).toNat = 0xFF from rfl]
  congr 1
  omega

theorem pcCtrlWord_eq_lanes (c : PcCtrl) : pcCtrlWord c = (0 : Byte) ++ c.dbMs ++ c.edgeFall ++ c.en := by
  rw [← ofNat_eq_lanes]
  rfl

/-- PC_CTRL reads back EN and EDGE_FALL under the line mask, and DB_MS (44_control R225). -/
theorem pcCtrlWord_pcCtrlOf {b : Build} (hb : b.nlines ≤ 8) (v : Word) :
    pcCtrlWord (pcCtrlOf b v) = v &&& BitVec.ofNat 32 (0xFF0000 + 257 * (2 ^ b.nlines - 1)) := by
  have hones : ∀ x : Byte, x &&& 0xFF = x := fun _ => BitVec.and_allOnes
  have hzero : ∀ x : Byte, x &&& 0 = 0 := fun _ => BitVec.and_zero
  conv_rhs => rw [word_eq_lanes v]
  rw [pcCtrlWord_eq_lanes, pcCtrl_mask hb, BitVec.and_append, BitVec.and_append, BitVec.and_append, hones, hzero]
  rfl

/-- Settles O20: no unit's update of the cycle writes the configuration, so the register holds what the write left. -/
theorem writtenConfigurationReadsBack : Obligations.WrittenConfigurationReadsBack := by
  intro s t off v hb hrst htr h
  obtain ⟨-, -, ⟨-, hlines⟩, -⟩ := (build_wellFormed_iff _).1 hb
  refine ⟨fun hoff => ?_, fun hoff => ?_, fun hoff => ?_, fun hoff => ?_⟩
  · rw [busRead_after_write (r := .irqEn) hrst htr (regOf_eq hoff) (by decide) h]
    exact setWidth_extractLsb' v 3
  · rw [busRead_after_write (r := .owCfg) hrst htr (regOf_eq hoff) (by decide) h]
    exact owCfgWord_owCfgOf v
  · rw [busRead_after_write (r := .vaneRref) hrst htr (regOf_eq hoff) (by decide) h]
    exact setWidth_extractLsb' v 24
  · rw [busRead_after_write (r := .pcCtrl) hrst htr (regOf_eq hoff) (by decide) h]
    exact pcCtrlWord_pcCtrlOf hlines v

end Sys2Proof.Machine
end

section
/-! PROOFS. The units share no mutable state (20_memory R73): a cycle reaches a unit only through its command, and a command
leaves of a unit what follows from the build, the unit's own state and its own configuration. -/

namespace Sys2Proof.Machine

/-! ### The command of a cycle -/

/-- The command that a transaction issues; NOP when it issues none. -/
def Transaction.command : Transaction → Instr
  | .idle | .read _ => .nop
  | .write off v =>
    if off.toNat / 4 = 1 then
      match decode v with
      | .command i => i
      | .reserved _ => .nop
    else .nop

/-- A transaction leaves the units as its command leaves them (44_control R220, R225). -/
theorem hostEffect_units {tr : Transaction} {s t : State} (h : hostEffect tr s = .next t) :
    ∃ u, exec tr.command s = .next u ∧ t.ow = u.ow ∧ t.vane = u.vane ∧ t.cmean = u.cmean ∧ t.lines = u.lines := by
  cases tr with
  | idle => exact ⟨t, h, rfl, rfl, rfl, rfl⟩
  | read => exact ⟨t, h, rfl, rfl, rfl, rfl⟩
  | write off v =>
    by_cases hcmd : off.toNat / 4 = 1
    · rw [hostEffect_write_cmd hcmd, issue] at h
      rw [Transaction.command, if_pos hcmd]
      cases hdec : decode v with
      | command i =>
        rw [hdec] at h
        exact ⟨t, h, rfl, rfl, rfl, rfl⟩
      | reserved o =>
        rw [hdec] at h
        cases h
        exact ⟨s, rfl, rfl, rfl, rfl, rfl⟩
    · rw [Transaction.command, if_neg hcmd]
      rcases hostEffect_cases h with rfl | ⟨_, w, r, -, -, -, rfl⟩ | ⟨_, _, _, ⟨⟩, hoff, -⟩ | ⟨_, _, _, ⟨⟩, hoff, -⟩
      · exact ⟨t, rfl, rfl, rfl, rfl, rfl⟩
      · obtain ⟨-, -, -, how, hvane, hcmean, hlines⟩ := regWrite_frame r w s
        exact ⟨s, rfl, how, hvane, hcmean, hlines⟩
      · exact absurd hoff hcmd
      · exact absurd hoff hcmd

/-! ### What a command leaves of each unit -/

section
variable {i : Instr} {s s' t t' : State}

theorem exec_ow_of_ne (hi : i ≠ .owRead) (h : exec i s = .next t) : t.ow = s.ow := by
  cases exec_effect h
  case owRead => exact absurd rfl hi
  all_goals rfl

theorem exec_vane_of_ne (hi : ∀ c, i ≠ .vaneResolve c) (h : exec i s = .next t) : t.vane = s.vane := by
  cases exec_effect h
  case vaneAtOnce c _ _ => exact absurd rfl (hi c)
  case vaneStart c _ => exact absurd rfl (hi c)
  all_goals rfl

theorem exec_cmean_of_ne (hclear : i ≠ .cmeanClear) (hadd : ∀ a, i ≠ .cmeanAdd a) (hcompute : i ≠ .cmeanCompute)
    (h : exec i s = .next t) : t.cmean = s.cmean := by
  cases exec_effect h
  case cmeanClear => exact absurd rfl hclear
  case cmeanAdd a _ _ => exact absurd rfl (hadd a)
  case cmeanAtOnce => exact absurd rfl hcompute
  case cmeanStart => exact absurd rfl hcompute
  all_goals rfl

theorem exec_lines_of_ne (hi : ∀ n, i ≠ .pcTake n) (h : exec i s = .next t) : t.lines = s.lines := by
  cases exec_effect h
  case pcTake n _ => exact absurd rfl (hi n)
  all_goals rfl

/-- A command leaves of OW what follows from the build, OW_CFG and OW. -/
theorem exec_ow_congr (hb : s.build = s'.build) (hcfg : s.owCfg = s'.owCfg) (how : s.ow = s'.ow)
    (h : exec i s = .next t) (h' : exec i s' = .next t') : t.ow = t'.ow := by
  by_cases hi : i = .owRead
  · subst hi
    cases h
    cases h'
    rw [show owBusy s = owBusy s' by rw [owBusy, owBusy, how]]
    split_ifs
    · exact how
    · simp only [hb, hcfg, how]
  · rw [exec_ow_of_ne hi h, exec_ow_of_ne hi h', how]

/-- A command leaves of VANE what follows from the build, VANE_RREF and VANE. -/
theorem exec_vane_congr (hb : s.build = s'.build) (href : s.vaneRref = s'.vaneRref) (hvane : s.vane = s'.vane)
    (h : exec i s = .next t) (h' : exec i s' = .next t') : t.vane = t'.vane := by
  by_cases hi : ∃ c, i = .vaneResolve c
  · obtain ⟨c, rfl⟩ := hi
    cases h
    cases h'
    rw [show vaneBusy s = vaneBusy s' by rw [vaneBusy, vaneBusy, hvane], hb]
    split_ifs
    · exact hvane
    · simp only [href, hvane]
    · simp only [href, hvane]
  · have hne : ∀ c, i ≠ .vaneResolve c := fun c hc => hi ⟨c, hc⟩
    rw [exec_vane_of_ne hne h, exec_vane_of_ne hne h', hvane]

/-- A command leaves of CMEAN what follows from the build and CMEAN. -/
theorem exec_cmean_congr (hb : s.build = s'.build) (hcmean : s.cmean = s'.cmean)
    (h : exec i s = .next t) (h' : exec i s' = .next t') : t.cmean = t'.cmean := by
  have hbusy : cmeanBusy s = cmeanBusy s' := by rw [cmeanBusy, cmeanBusy, hcmean]
  cases i with
  | cmeanClear =>
    cases h
    cases h'
    rw [hbusy]
    split_ifs
    · exact hcmean
    · simp only [hcmean]
  | cmeanAdd a =>
    cases h
    cases h'
    rw [hbusy, hcmean]
    split_ifs
    · exact hcmean
    · exact hcmean
    · exact hcmean
    · rfl
  | cmeanCompute =>
    cases h
    cases h'
    rw [hbusy, hb]
    split_ifs
    · exact hcmean
    · simp only [hcmean]
    · simp only [hcmean]
  | nop | owRead | vaneResolve c | pcTake n =>
    rw [exec_cmean_of_ne (by simp) (by simp) (by simp) h, exec_cmean_of_ne (by simp) (by simp) (by simp) h', hcmean]

/-- A command leaves of the lines what follows from the build and the lines. -/
theorem exec_lines_congr (hb : s.build = s'.build) (hlines : s.lines = s'.lines)
    (h : exec i s = .next t) (h' : exec i s' = .next t') : t.lines = t'.lines := by
  by_cases hi : ∃ n, i = .pcTake n
  · obtain ⟨n, rfl⟩ := hi
    cases h
    cases h'
    rw [hb]
    split_ifs
    · exact hlines
    · simp only [State.line, hlines]
  · have hne : ∀ n, i ≠ .pcTake n := fun n hn => hi ⟨n, hn⟩
    rw [exec_lines_of_ne hne h, exec_lines_of_ne hne h', hlines]

end

/-! ### What a step leaves of each unit -/

theorem tick_congr {s s' : State} (hb : s.build = s'.build) (hp : s.presc = s'.presc) : s.tick = s'.tick := by
  rw [State.tick, State.tick, hb, hp]

/-- Settles O56: both steps reset, or both run the same command and each unit's update of the same unit. -/
theorem unitsShareNoState : Obligations.UnitsShareNoState := by
  intro s s' t t' h h' hb hi
  rcases step_cases h with ⟨hr, rfl⟩ | ⟨hr, u, hu, rfl⟩
  · rcases step_cases h' with ⟨-, rfl⟩ | ⟨hr', -⟩
    · rw [afterReset_lines, afterReset_lines, hb]
      exact ⟨fun _ _ _ => rfl, fun _ _ _ _ => rfl, fun _ _ => rfl, fun _ => rfl⟩
    · simp [← hi, hr] at hr'
  · rcases step_cases h' with ⟨hr', -⟩ | ⟨-, u', hu', rfl⟩
    · simp [← hi, hr] at hr'
    · obtain ⟨v, hv, how, hvane, hcmean, hlines⟩ := hostEffect_units hu
      obtain ⟨v', hv', how', hvane', hcmean', hlines'⟩ := hostEffect_units hu'
      rw [← hi] at hv'
      refine ⟨fun hp hl hc => ?_, fun hp hsync hcfg ho => ?_, fun href hva => ?_, fun hcm => ?_⟩
      · rw [merge_lines, merge_lines, hlines, hlines', exec_lines_congr hb hl hv hv', hb, hc, tick_congr hb hp, hi]
      · simp only [merge_ow, owAfter, owBusy, how, how', exec_ow_congr hb hcfg ho hv hv', ho, hsync, tick_congr hb hp, hi]
      · simp only [merge_vane, vaneAfter, vaneBusy, hvane, hvane', exec_vane_congr hb href hva hv hv', hva, hb]
      · simp only [merge_cmean, cmeanAfter, cmeanBusy, hcmean, hcmean', exec_cmean_congr hb hcm hv hv', hcm]

end Sys2Proof.Machine
end

section
/-! PROOFS. The encoding of a command (30_encoding R80 to R89): which words decode to a command, and that the word the
assembler emits is one of them. -/

namespace Sys2Proof.Machine

/-! ### Fields of a word -/

/-- The opcode read through the mask of its bits. -/
theorem and_mask_eq_iff_fieldOpc {w : Word} {k : Nat} (hk : k < 2 ^ 8) :
    w &&& 0xFF = BitVec.ofNat 32 k ↔ (fieldOpc w).toNat = k := by
  have hmask : w &&& 0xFF = BitVec.setWidth 32 (fieldOpc w) := (setWidth_extractLsb' w 8).symm
  have hlt : (fieldOpc w).toNat < 2 ^ 8 := (fieldOpc w).isLt
  rw [hmask, ← BitVec.toNat_inj, BitVec.toNat_setWidth, BitVec.toNat_ofNat]
  omega

theorem fieldLine_lt (w : Word) : fieldLine w < 2 ^ 4 := BitVec.isLt _

theorem fieldArg_lt (w : Word) : fieldArg w < 2 ^ 12 := BitVec.isLt _

/-- The fields of a word written as OPC, LINE and ARG with 0 in every ignored bit. -/
theorem fields_of_toNat_eq {w : Word} {opc line arg : Nat} (hw : w.toNat = opc + 2 ^ 8 * line + 2 ^ 16 * arg)
    (hline : line < 2 ^ 4) (harg : arg < 2 ^ 12) (hopc : opc < 2 ^ 8) :
    (fieldOpc w).toNat = opc ∧ fieldLine w = line ∧ fieldArg w = arg := by
  simp only [fieldOpc, fieldLine, fieldArg, BitVec.extractLsb'_toNat, Nat.shiftRight_eq_div_pow, hw]
  omega

/-! ### Which words decode to a command -/

/-- The field that holds the operand of the command, for a command that has one, has the operand's value
(30_encoding R81). -/
def HoldsOperand (w : Word) : Instr → Prop
  | .vaneResolve c => fieldArg w = c
  | .cmeanAdd a => fieldArg w = a
  | .pcTake n => fieldLine w = n
  | .nop | .owRead | .cmeanClear | .cmeanCompute => True

/-- The decoder chooses the command by OPC alone and then reads its operand (30_encoding R87). -/
theorem decode_eq_command_iff {w : Word} {i : Instr} :
    decode w = .command i ↔ (fieldOpc w).toNat = opcodeOf i ∧ HoldsOperand w i := by
  constructor
  · intro h
    unfold decode at h
    split at h <;> cases h
    all_goals exact ⟨‹_›, by simp [HoldsOperand]⟩
  · rintro ⟨hopc, hoperand⟩
    unfold decode
    rw [hopc]
    cases i with
    | nop | owRead | cmeanClear | cmeanCompute => rfl
    | vaneResolve c | cmeanAdd a | pcTake n =>
      cases hoperand
      rfl

theorem opcodeOf_lt (i : Instr) : opcodeOf i < 2 ^ 8 := by
  cases i <;> simp [opcodeOf]

theorem decode_eq_command_iff_mask {w : Word} {i : Instr} :
    decode w = .command i ↔ w &&& 0xFF = BitVec.ofNat 32 (opcodeOf i) ∧ HoldsOperand w i := by
  rw [and_mask_eq_iff_fieldOpc (opcodeOf_lt i), decode_eq_command_iff]

/-- Settles O2: the mask and the operand's field, command by command. -/
theorem decodeReadsOnlyTheUsedFields : Obligations.DecodeReadsOnlyTheUsedFields := by
  intro w
  have hmask {i : Instr} (hi : HoldsOperand w i) :
      decode w = .command i ↔ w &&& 0xFF = BitVec.ofNat 32 (opcodeOf i) :=
    decode_eq_command_iff_mask.trans (and_iff_left hi)
  exact ⟨hmask trivial, hmask trivial, fun _ => decode_eq_command_iff_mask, hmask trivial,
    fun _ => decode_eq_command_iff_mask, hmask trivial, fun _ => decode_eq_command_iff_mask⟩

/-! ### A decoded command is well formed, and every opcode of the table has one -/

theorem HoldsOperand.wellFormed {w : Word} {i : Instr} (h : HoldsOperand w i) : i.wellFormed = true := by
  have hline := fieldLine_lt w
  have harg := fieldArg_lt w
  cases i with
  | nop | owRead | cmeanClear | cmeanCompute => rfl
  | vaneResolve c | cmeanAdd a | pcTake n =>
    simp only [HoldsOperand] at h
    simp only [Instr.wellFormed, decide_eq_true_eq]
    omega

/-- The seven opcodes of the table (30_encoding R85). -/
theorem opcodeOf_mem (i : Instr) :
    BitVec.ofNat 8 (opcodeOf i) ∈ ([0x00, 0x01, 0x10, 0x20, 0x21, 0x22, 0x30] : List Byte) := by
  cases i <;> simp [opcodeOf]

/-- Whatever the word's operand fields hold, an opcode of the table has a command with those operands. -/
theorem exists_opcodeOf_eq_and_holdsOperand (w : Word) {o : Byte}
    (ho : o ∈ ([0x00, 0x01, 0x10, 0x20, 0x21, 0x22, 0x30] : List Byte)) :
    ∃ i, o.toNat = opcodeOf i ∧ HoldsOperand w i := by
  simp only [List.mem_cons, List.not_mem_nil, or_false] at ho
  rcases ho with rfl | rfl | rfl | rfl | rfl | rfl | rfl
  · exact ⟨.nop, rfl, trivial⟩
  · exact ⟨.owRead, rfl, trivial⟩
  · exact ⟨.vaneResolve (fieldArg w), rfl, rfl⟩
  · exact ⟨.cmeanClear, rfl, trivial⟩
  · exact ⟨.cmeanAdd (fieldArg w), rfl, rfl⟩
  · exact ⟨.cmeanCompute, rfl, trivial⟩
  · exact ⟨.pcTake (fieldLine w), rfl, rfl⟩

/-- Settles O3: the opcode of the table chooses the command, whose operands fit because they are fields of the word. -/
theorem everyWordIsACommandOrReserved : Obligations.EveryWordIsACommandOrReserved := by
  intro w
  constructor
  · rintro ⟨i, hdec, -⟩
    obtain ⟨hopc, -⟩ := decode_eq_command_iff.1 hdec
    have hmem := opcodeOf_mem i
    rwa [← hopc, BitVec.ofNat_toNat, BitVec.setWidth_eq] at hmem
  · intro hmem
    obtain ⟨i, hopc, hoperand⟩ := exists_opcodeOf_eq_and_holdsOperand w hmem
    exact ⟨i, decode_eq_command_iff.2 ⟨hopc, hoperand⟩, hoperand.wellFormed⟩

/-! ### The word the assembler emits -/

section

open Laws.EncodedWord

/-- The family EncodedWord for every command. -/
theorem encodedWord_statement : (i : Instr) → Statement i
  | .nop => nop
  | .owRead => owRead
  | .vaneResolve c => vaneResolve c
  | .cmeanClear => cmeanClear
  | .cmeanAdd a => cmeanAdd a
  | .cmeanCompute => cmeanCompute
  | .pcTake n => pcTake n

theorem holdsOperand_of_fields {w : Word} {i : Instr} (hline : fieldLine w = lineOperand i)
    (harg : fieldArg w = argOperand i) : HoldsOperand w i := by
  cases i with
  | nop | owRead | cmeanClear | cmeanCompute => trivial
  | vaneResolve c | cmeanAdd a => exact harg
  | pcTake n => exact hline

/-- Settles O1: the emitted word's three fields are the opcode and the operands, which is all the decoder reads. -/
theorem decodeOfEncodeIsTheCommand : Obligations.DecodeOfEncodeIsTheCommand := by
  intro i hi
  obtain ⟨hw, hlineLt, hargLt, hopcLt⟩ := encodedWord_statement i hi
  obtain ⟨hopc, hline, harg⟩ := fields_of_toNat_eq hw hlineLt hargLt hopcLt
  exact decode_eq_command_iff.2 ⟨hopc, holdsOperand_of_fields hline harg⟩

end

/-- Settles O4: seven of the words are what the assembler emits; the two with ignored bits set hold OPC 0x21 and ARG 900. -/
theorem sampleWordsDecode : Obligations.SampleWordsDecode :=
  ⟨decodeOfEncodeIsTheCommand .nop rfl,
    decodeOfEncodeIsTheCommand .owRead rfl,
    decodeOfEncodeIsTheCommand (.vaneResolve 2048) rfl,
    decodeOfEncodeIsTheCommand .cmeanClear rfl,
    decodeOfEncodeIsTheCommand (.cmeanAdd 3500) rfl,
    decode_eq_command_iff_mask.2 ⟨by decide, by unfold HoldsOperand; decide⟩,
    decode_eq_command_iff_mask.2 ⟨by decide, by unfold HoldsOperand; decide⟩,
    decodeOfEncodeIsTheCommand .cmeanCompute rfl,
    decodeOfEncodeIsTheCommand (.pcTake 15) rfl⟩

end Sys2Proof.Machine
end

section
/-! PROOFS. The frame of a read (40_onewire R106, R109 to R113): where a window's bit lands, the verdict of a frame,
what its checksum catches, and the ranges of its Reading. -/

namespace Sys2Proof.Machine

/-! ### The bit of a window -/

@[simp] theorem shiftIn_getLsbD_zero (b : Byte) (bit : Bool) : (shiftIn b bit).getLsbD 0 = bit := by
  rw [shiftIn, BitVec.getLsbD_ofNat, Nat.testBit_zero]
  cases bit <;> simp

theorem shiftIn_getLsbD_succ (b : Byte) (bit : Bool) {p : Nat} (hp : p < 7) :
    (shiftIn b bit).getLsbD (p + 1) = b.getLsbD p := by
  have hhalf : (2 * b.toNat + bit.toNat) / 2 = b.toNat := by
    have := bit.toNat_lt
    omega
  rw [shiftIn, BitVec.getLsbD_ofNat, Nat.testBit_succ, hhalf, decide_eq_true (by omega), Bool.true_and,
    BitVec.testBit_toNat]

theorem isDataWindow_iff (i j : Nat) : isDataWindow i j = true ↔ 4 ≤ i ∧ i % 2 = 0 ∧ j < 40 := by
  simp [isDataWindow, and_assoc]

/-- A counter one higher, written through its number. -/
theorem ofNat_toNat_succ {w : Nat} (x : BitVec w) : BitVec.ofNat w (x.toNat + 1) = x + 1 := by
  rw [BitVec.ofNat_add, BitVec.ofNat_toNat, BitVec.setWidth_eq]
  rfl

section
variable {i : Nat} (d : Nat) {o : Ow}

/-- A data window shifts its bit into the byte in progress. -/
theorem windowEnd_of_data (hi : isDataWindow i o.nbits.toNat = true) :
    windowEnd i d o =
      { o with
        acc := o.acc.setIfInBounds (o.nbits.toNat / 8)
          (shiftIn (o.acc[o.nbits.toNat / 8]?.getD 0) (decide (d > o.thrL.toNat)))
        nbits := o.nbits + 1 } := by
  rw [windowEnd, if_pos hi, ofNat_toNat_succ]

theorem windowEnd_of_not_data (hi : ¬isDataWindow i o.nbits.toNat = true) : windowEnd i d o = o := if_neg hi

/-- Byte by byte: a data window reaches only the byte in progress. -/
theorem windowEnd_byte (hi : isDataWindow i o.nbits.toNat = true) (k : Nat) :
    (windowEnd i d o).acc[k]?.getD 0 =
      if k = o.nbits.toNat / 8 then shiftIn (o.acc[k]?.getD 0) (decide (d > o.thrL.toNat)) else o.acc[k]?.getD 0 := by
  have hbits : o.nbits.toNat < 40 := ((isDataWindow_iff _ _).1 hi).2.2
  rw [windowEnd_of_data d hi]
  split_ifs with hk
  · rw [hk, Vector.getElem?_setIfInBounds_self_of_lt (by omega), Option.getD_some]
  · rw [Vector.getElem?_setIfInBounds_ne (Ne.symm hk)]

end

theorem setIfInBounds_eq_set {α : Type} {n k : Nat} (xs : Vector α n) (x : α) (h : k < n) :
    xs.setIfInBounds k x = xs.set k x h :=
  Vector.ext fun j hj => by rw [Vector.getElem_setIfInBounds, Vector.getElem_set]

/-- Settles O37, by the two cases of `window_end`. -/
theorem windowEndShiftsOneBit : Obligations.WindowEndShiftsOneBit := by
  intro i d o
  rw [← isDataWindow_iff]
  refine ⟨fun hi => ?_, windowEnd_of_not_data d⟩
  have hbits : o.nbits.toNat < 40 := ((isDataWindow_iff _ _).1 hi).2.2
  have hbyte : o.nbits.toNat / 8 < 5 := by omega
  have hmod (m : Nat) : BitVec.ofNat 8 (m % 256) = BitVec.ofNat 8 m := BitVec.eq_of_toNat_eq (by simp)
  refine ⟨hbyte, (decide (d > o.thrL.toNat)).toNat, by simp [Bool.toNat, Bool.cond_decide], ?_⟩
  rw [windowEnd_of_data d hi, setIfInBounds_eq_set _ _ hbyte, Vector.getElem?_eq_getElem hbyte, Option.getD_some,
    hmod, shiftIn]

/-! ### The bits of a frame -/

/-- The unit in which windows of the durations `ds` have ended one after another and each left its bit: while its byte
is in progress bit j moves up with every later bit, and at the byte's end it is at position 7 - j mod 8. -/
structure Ow.Collected (ds : List Nat) (o : Ow) : Prop where
  count : o.nbits.toNat = ds.length
  bit : ∀ j, j < ds.length →
    (o.acc[j / 8]?.getD 0).getLsbD (min (ds.length - 1) (8 * (j / 8) + 7) - j) = decide (ds.getD j 0 > o.thrL.toNat)

theorem windowEnd_collected {ds : List Nat} {o : Ow} (d : Nat) (h : o.Collected ds) (hlen : ds.length < 40) :
    (windowEnd (4 + 2 * ds.length) d o).Collected (ds ++ [d]) := by
  have hdata : isDataWindow (4 + 2 * ds.length) o.nbits.toNat = true :=
    (isDataWindow_iff _ _).2 ⟨by omega, by omega, h.count ▸ hlen⟩
  obtain ⟨-, -, -, hthr, -⟩ := windowEnd_frame (4 + 2 * ds.length) d o
  refine ⟨by rw [windowEnd_nbits, if_pos hdata, h.count, List.length_append, List.length_singleton], fun j hj => ?_⟩
  rw [List.length_append, List.length_singleton] at hj ⊢
  rw [windowEnd_byte d hdata, h.count, hthr, Nat.add_sub_cancel]
  rcases Nat.lt_succ_iff_lt_or_eq.1 hj with hold | rfl
  · rw [List.getD_append _ _ _ _ hold, ← h.bit j hold]
    split_ifs with hbyte
    · rw [← shiftIn_getLsbD_succ (o.acc[j / 8]?.getD 0) (decide (d > o.thrL.toNat)) (by omega)]
      congr 1
      omega
    · congr 1
      omega
  · rw [if_pos rfl, show min ds.length (8 * (ds.length / 8) + 7) - ds.length = 0 by omega, shiftIn_getLsbD_zero]
    simp

/-- `o` after data windows 4, 6, ... of the durations `ds`. -/
def Ow.afterDataWindows (o : Ow) (ds : List Nat) : Ow :=
  (ds.zipIdx).foldl (fun u dj => windowEnd (4 + 2 * dj.2) dj.1 u) o

theorem afterDataWindows_snoc (o : Ow) (ds : List Nat) (d : Nat) :
    o.afterDataWindows (ds ++ [d]) = windowEnd (4 + 2 * ds.length) d (o.afterDataWindows ds) := by
  simp [Ow.afterDataWindows, List.zipIdx_append]

theorem afterDataWindows_thrL (o : Ow) (ds : List Nat) : (o.afterDataWindows ds).thrL = o.thrL := by
  induction ds using List.reverseRecOn with
  | nil => rfl
  | append_singleton ds d ih =>
    obtain ⟨-, -, -, hthr, -⟩ := windowEnd_frame (4 + 2 * ds.length) d (o.afterDataWindows ds)
    rw [afterDataWindows_snoc, hthr, ih]

/-- The data windows collect their bits in order, up to a whole frame. -/
theorem afterDataWindows_collected {o : Ow} (ho : o.nbits = 0) {ds : List Nat} (hlen : ds.length ≤ 40) :
    (o.afterDataWindows ds).Collected ds := by
  induction ds using List.reverseRecOn with
  | nil => exact ⟨by simp [Ow.afterDataWindows, ho], by simp⟩
  | append_singleton ds d ih =>
    rw [List.length_append, List.length_singleton] at hlen
    rw [afterDataWindows_snoc]
    exact windowEnd_collected d (ih (by omega)) (by omega)

/-- Settles O38, by induction on the windows ended: after the fortieth every byte is complete. -/
theorem frameBitsLandMostSignificantFirst : Obligations.FrameBitsLandMostSignificantFirst := by
  intro o ds ho _ hlen o' ho'
  change o' = o.afterDataWindows ds at ho'
  subst ho'
  have h := afterDataWindows_collected ho hlen.le
  refine ⟨BitVec.eq_of_toNat_eq (h.count.trans hlen), fun j hj => ?_⟩
  rw [← afterDataWindows_thrL o ds, ← h.bit j (by omega)]
  congr 1
  omega

/-! ### The bytes of a frame -/

theorem toNat_eq_frameByte (acc : Vector Byte 5) {k : Nat} (hk : k < 5) : acc[k].toNat = frameByte acc k := by
  rw [frameByte, Vector.getElem?_eq_getElem hk, Option.getD_some]

theorem frameByte_lt (acc : Vector Byte 5) (k : Nat) : frameByte acc k < 256 := BitVec.isLt _

theorem frameByte_set (acc : Vector Byte 5) {k : Nat} (b : Byte) (hk : k < 5) (j : Nat) :
    frameByte (acc.set k b hk) j = if k = j then b.toNat else frameByte acc j := by
  rw [frameByte, Vector.getElem?_set]
  split_ifs <;> rfl

/-- The top bit of a byte, as a test on its number. -/
theorem getLsbD_seven (b : Byte) : b.getLsbD 7 = decide (128 ≤ b.toNat) :=
  (BitVec.msb_eq_getLsbD_last b).symm.trans (BitVec.msb_eq_decide b)

/-- The seven low bits of a byte, as a number. -/
theorem and_magnitudeMask (b : Byte) : (b &&& 0x7F).toNat = b.toNat % 128 := by
  rw [BitVec.toNat_and]
  exact Nat.and_two_pow_sub_one_eq_mod _ 7

/-! ### The checksum -/

/-- The sum the checksum byte is compared with, before it is cut to a byte (40_onewire R110). -/
def dataSum (acc : Vector Byte 5) : Nat := frameByte acc 0 + frameByte acc 1 + frameByte acc 2 + frameByte acc 3

theorem checksumOk_iff (acc : Vector Byte 5) : checksumOk acc = true ↔ frameByte acc 4 = dataSum acc % 256 :=
  decide_eq_true_iff

theorem dataSum_set_checksum (acc : Vector Byte 5) (b : Byte) (hk : 4 < 5) :
    dataSum (acc.set 4 b hk) = dataSum acc := by
  simp [dataSum, frameByte_set]

/-- A new data byte changes the sum by its difference to the old one. -/
theorem dataSum_set_data (acc : Vector Byte 5) {k : Nat} (b : Byte) (hk : k < 5) (hdata : k < 4) :
    dataSum (acc.set k b hk) + frameByte acc k = dataSum acc + b.toNat := by
  simp only [dataSum, frameByte_set]
  interval_cases k <;> simp <;> omega

/-- Settles O40: a changed checksum byte is no longer the sum; a changed data byte moves the sum by less than 256. -/
theorem singleByteCorruptionIsCaught : Obligations.SingleByteCorruptionIsCaught := by
  intro acc k b hk hok hb
  have hne : b.toNat ≠ frameByte acc k := by
    rw [← toNat_eq_frameByte acc hk]
    exact fun h => hb (BitVec.eq_of_toNat_eq h)
  rw [← Bool.not_eq_true, checksumOk_iff, frameByte_set]
  rw [checksumOk_iff] at hok
  by_cases hsum : k = 4
  · subst hsum
    rwa [if_pos rfl, dataSum_set_checksum, ← hok]
  · have hdiff := dataSum_set_data acc b hk (by omega)
    have hold := frameByte_lt acc k
    have hnew := b.isLt
    rw [if_neg hsum]
    omega

/-! ### The Reading -/

/-- Humidity: the 16-bit number of bytes 0 and 1, or byte 0 alone (40_onewire R111). -/
theorem hum10_cases (acc : Vector Byte 5) :
    (256 * frameByte acc 0 + frameByte acc 1 ≤ 1000 ∧ hum10 acc = 256 * frameByte acc 0 + frameByte acc 1) ∨
    (256 * frameByte acc 0 + frameByte acc 1 > 1000 ∧ hum10 acc = 10 * frameByte acc 0) := by
  rcases Nat.lt_or_ge 1000 (256 * frameByte acc 0 + frameByte acc 1) with h | h
  · exact .inr ⟨h, if_pos h⟩
  · exact .inl ⟨h, if_neg (by omega)⟩

/-- The magnitude of the temperature: 15 bits of bytes 2 and 3, or byte 2 alone (40_onewire R112). -/
def tempMagnitude (acc : Vector Byte 5) : Nat :=
  if 256 * (frameByte acc 2 % 128) + frameByte acc 3 > 1250 then 10 * frameByte acc 2
  else 256 * (frameByte acc 2 % 128) + frameByte acc 3

theorem temp10_cases (acc : Vector Byte 5) :
    (frameByte acc 2 < 128 ∧ temp10 acc = tempMagnitude acc) ∨
    (128 ≤ frameByte acc 2 ∧ temp10 acc = -(tempMagnitude acc : Int)) := by
  rcases Nat.lt_or_ge (frameByte acc 2) 128 with h | h
  · exact .inl ⟨h, if_neg (by omega)⟩
  · exact .inr ⟨h, if_pos h⟩

theorem temp10_eq_sign_mul (acc : Vector Byte 5) :
    temp10 acc = (if 128 ≤ frameByte acc 2 then -1 else 1) * (tempMagnitude acc : Int) := by
  rcases temp10_cases acc with ⟨hsign, h⟩ | ⟨hsign, h⟩
  · rw [h, if_neg (by omega), one_mul]
  · rw [h, if_pos hsign, neg_one_mul]

theorem tempMagnitude_cases (acc : Vector Byte 5) :
    (256 * (frameByte acc 2 % 128) + frameByte acc 3 ≤ 1250 ∧
      tempMagnitude acc = 256 * (frameByte acc 2 % 128) + frameByte acc 3) ∨
    (256 * (frameByte acc 2 % 128) + frameByte acc 3 > 1250 ∧ tempMagnitude acc = 10 * frameByte acc 2) := by
  rcases Nat.lt_or_ge 1250 (256 * (frameByte acc 2 % 128) + frameByte acc 3) with h | h
  · exact .inr ⟨h, if_pos h⟩
  · exact .inl ⟨h, if_neg (by omega)⟩

/-- Settles O41: a fallback's condition bounds its byte from below, and TEMP stays far inside 16 bits. -/
theorem readingRanges : Obligations.ReadingRanges := by
  intro acc
  have h0 := frameByte_lt acc 0
  have h1 := frameByte_lt acc 1
  have h2 := frameByte_lt acc 2
  have h3 := frameByte_lt acc 3
  have hhum := hum10_cases acc
  have hmag := tempMagnitude_cases acc
  have hsign := temp10_cases acc
  simp only [toNat_eq_frameByte]
  refine ⟨by omega, by omega, by omega, by omega, by omega, ?_⟩
  rw [BitVec.toInt_ofInt]
  exact Int.bmod_eq_of_le (by omega) (by omega)

/-- Settles O39: the verdicts of `finish` in the order of its tests, the frame's bytes read as numbers. -/
theorem owFinishGivesTheVerdict : Obligations.OwFinishGivesTheVerdict := by
  intro acc nbits timedOut o
  refine ⟨(owFinish_frame acc nbits timedOut o).1, ?_⟩
  have hok_iff := checksumOk_iff acc
  rw [dataSum] at hok_iff
  simp only [toNat_eq_frameByte, getLsbD_seven, and_magnitudeMask, ne_eq, ← hok_iff, decide_eq_true_eq]
  rw [owFinish]
  by_cases hshort : nbits < 40
  · simp [hshort]
  · by_cases hok : checksumOk acc = true
    · simp [hshort, hok, temp10_eq_sign_mul, hum10, tempMagnitude]
    · simp [hshort, hok]

end Sys2Proof.Machine
end

section
/-! PROOFS. A read in progress (40_onewire R101 to R108, R115, R116): how it starts, its step in each phase, and how
long it can take. -/

namespace Sys2Proof.Machine

/-! ### OW in a cycle -/

/-- A busy OW takes its own step in a cycle, whatever the host does, or is reset (44_control R223). -/
theorem step_ow_of_busy {s t : State} (h : step s = .next t) (hbusy : s.ow.phase ≠ .idle) :
    t.ow = if s.nextInput.rst then Ow.reset
      else (owUpdate s.tick (syncValue s.nextInput.owIn s.owSync) s.ow).ow := by
  rcases step_cases h with ⟨hr, rfl⟩ | ⟨hr, u, -, rfl⟩
  · rw [hr, if_pos rfl, afterReset_ow]
  · rw [hr, if_neg Bool.false_ne_true, merge_ow, owAfter, if_pos ((owBusy_iff s).2 hbusy)]

/-- An idle OW is as the host leaves it. -/
theorem merge_ow_of_idle (i : Input) {s t : State} (hidle : s.ow.phase = .idle) : (merge i s t).ow = t.ow := by
  rw [merge_ow, owAfter, if_neg (by simp [hidle])]

section
variable {level : Bool} {o : Ow}

theorem owUpdate_of_no_tick : owUpdate false level o = ⟨o, false⟩ := rfl

theorem owUpdate_of_low (h : o.phase = .low) : owUpdate true level o = ⟨owLowTick o, false⟩ := by
  simp [owUpdate, h]

theorem owUpdate_of_high (h : o.phase = .high) : owUpdate true level o = owHighTick o := by
  simp [owUpdate, h]

theorem owUpdate_of_sample (h : o.phase = .sample) : owUpdate true level o = owSampleTick level o := by
  simp [owUpdate, h]

end

/-! ### The start of a read -/

theorem execOwRead_of_idle {s : State} (h : s.ow.phase = .idle) :
    exec .owRead s = .next { s with ow := owAccept s.build s.owCfg s.ow } := by
  show execOwRead s = _
  rw [execOwRead, if_neg (by simp [h])]

/-- Settles O27: the accepted unit, which the merge of an idle OW keeps. -/
theorem owReadStartsAReadWhenIdle : Obligations.OwReadStartsAReadWhenIdle := fun s h =>
  ⟨owAccept s.build s.owCfg s.ow, execOwRead_of_idle h, rfl, rfl, rfl, rfl, rfl, rfl, rfl, rfl, rfl, rfl, rfl, rfl, rfl,
    rfl, rfl, fun inp => merge_ow_of_idle inp h⟩

/-- Of a host's transactions only one that issues OW_READ reaches OW. -/
theorem hostEffect_ow_of_not_issues {s t : State} (h : hostEffect s.nextInput.transaction s = .next t)
    (hno : ¬s.Issues .owRead) : t.ow = s.ow := by
  rcases hostEffect_cases h with
    rfl | ⟨_, v, r, -, -, -, rfl⟩ | ⟨off, v, i, htr, hoff, hdec, hexec⟩ | ⟨_, _, _, -, -, -, rfl⟩
  · rfl
  · obtain ⟨-, -, -, how, -⟩ := regWrite_frame r v s
    exact how
  · refine exec_ow_of_ne (fun hi => hno ?_) hexec
    exact ⟨off, v, htr, hoff, hi ▸ hdec⟩
  · rfl

/-- Settles O43: reset and every other transaction leave an idle OW idle, and a busy OW's step has no OW_CFG in it. -/
theorem owStartsOnlyOnOwReadAndLatchesItsConfiguration :
    Obligations.OwStartsOnlyOnOwReadAndLatchesItsConfiguration := by
  refine fun s t h => ⟨fun hidle hbusy => ?_, fun hbusy cfg t' h' => ?_⟩
  · rcases step_cases h with ⟨-, rfl⟩ | ⟨hr, u, hu, rfl⟩
    · exact absurd rfl hbusy
    · refine ⟨hr, by_contra fun hno => hbusy ?_⟩
      rw [merge_ow_of_idle _ hidle, hostEffect_ow_of_not_issues hu hno, hidle]
  · rw [step_ow_of_busy h hbusy]
    exact step_ow_of_busy (s := { s with owCfg := cfg }) h' hbusy

/-! ### The phases -/

/-- `finish` with no bit collected and no timeout ends SHORT (40_onewire R104, R109). -/
theorem owFinish_empty (acc : Vector Byte 5) (o : Ow) :
    owFinish acc 0 false o = ⟨{ o with phase := .idle, err := .short, valid := false }, true⟩ := rfl

/-- Settles O35, phase by phase. -/
theorem owStartPulseStep : Obligations.OwStartPulseStep := by
  intro s t hrst h
  have how (hbusy : s.ow.phase ≠ .idle) :
      t.ow = (owUpdate s.tick (syncValue s.nextInput.owIn s.owSync) s.ow).ow := by
    rw [step_ow_of_busy h hbusy, hrst, if_neg Bool.false_ne_true]
  refine ⟨fun htick hbusy => ?_, fun htick hlow => ?_, fun htick hhigh => ?_⟩
  · rw [how hbusy, htick, owUpdate_of_no_tick]
  · rw [how (by simp [hlow]), htick, owUpdate_of_low hlow, owLowTick]
  · rw [how (by simp [hhigh]), htick, owUpdate_of_high hhigh, owHighTick, enterSample, owFinish_empty, ite_not]
    split_ifs <;> rfl

section
variable {level : Bool} {o : Ow}

theorem owSampleTick_of_last (h : level = o.last) :
    owSampleTick level o =
      if o.cnt.toNat = 254 then owFinish o.acc o.nbits.toNat true { o with timedOut := true }
      else ⟨{ o with cnt := o.cnt + 1 }, false⟩ := by
  simp only [owSampleTick, if_pos h, ofNat_toNat_succ, Nat.reduceEqDiff]

/-- The unit in which the window of a changed level has ended and the next has begun (40_onewire R105). -/
def Ow.nextWindow (level : Bool) (o : Ow) : Ow :=
  { windowEnd o.win.toNat o.cnt.toNat o with last := level, cnt := 1, win := o.win + 1 }

theorem owSampleTick_of_ne_last (h : level ≠ o.last) :
    owSampleTick level o =
      if o.win.toNat + 1 = o.maxwinL.toNat then
        owFinish (o.nextWindow level).acc (o.nextWindow level).nbits.toNat false (o.nextWindow level)
      else ⟨o.nextWindow level, false⟩ := by
  simp only [owSampleTick, if_neg h, ofNat_toNat_succ, Ow.nextWindow]

theorem nextWindow_cnt : (o.nextWindow level).cnt.toNat = 1 := rfl

/-- Below the window count the number of windows does not wrap. -/
theorem nextWindow_win (h : o.win.toNat < o.maxwinL.toNat) : (o.nextWindow level).win.toNat = o.win.toNat + 1 := by
  have hmax := o.maxwinL.isLt
  exact BitVec.toNat_add_of_lt (y := 1) (show o.win.toNat + 1 < 2 ^ 7 by omega)

theorem nextWindow_phase : (o.nextWindow level).phase = o.phase := by
  obtain ⟨hphase, -⟩ := windowEnd_frame o.win.toNat o.cnt.toNat o
  exact hphase

theorem nextWindow_maxwinL : (o.nextWindow level).maxwinL = o.maxwinL := by
  obtain ⟨-, -, hmax, -⟩ := windowEnd_frame o.win.toNat o.cnt.toNat o
  exact hmax

end

/-- Settles O36, by whether the sample is the level of the window in progress. -/
theorem owSampleStep : Obligations.OwSampleStep := by
  intro s t hlegal hrst h htick hsample
  obtain ⟨hwin, -⟩ := hlegal.sample_open hsample
  have how : t.ow = (owSampleTick (syncValue s.nextInput.owIn s.owSync) s.ow).ow := by
    rw [step_ow_of_busy h (by simp [hsample]), hrst, if_neg Bool.false_ne_true, htick, owUpdate_of_sample hsample]
  refine ⟨fun hlevel => ?_, fun hlevel => ⟨s.ow.nextWindow _, rfl, nextWindow_win hwin, ?_⟩⟩
  · rw [how, owSampleTick_of_last hlevel]
    split_ifs <;> rfl
  · rw [how, owSampleTick_of_ne_last hlevel]
    split_ifs <;> rfl

/-! ### The end of a read -/

/-- The most ticks a read can still take (40_onewire R115): the start pulse, and 255 ticks for each window. -/
def Ow.ticksLeft (o : Ow) : Nat :=
  match o.phase with
  | .idle => 0
  | .low => o.tcnt + max o.highL.toNat 1 + 255 * max o.maxwinL.toNat 1
  | .high => o.tcnt + 255 * max o.maxwinL.toNat 1
  | .sample => 255 * (o.maxwinL.toNat - o.win.toNat) - o.cnt.toNat

theorem ticksLeft_of_idle {o : Ow} (h : o.phase = .idle) : o.ticksLeft = 0 := by rw [Ow.ticksLeft, h]

@[simp] theorem owFinish_ticksLeft (acc : Vector Byte 5) (nbits : Nat) (timedOut : Bool) (o : Ow) :
    (owFinish acc nbits timedOut o).ow.ticksLeft = 0 :=
  ticksLeft_of_idle (owFinish_frame acc nbits timedOut o).2.1

section
variable {b : Build} {o : Ow}

theorem owLowTick_ticksLeft (hlegal : o.Legal b) (hp : o.phase = .low) : (owLowTick o).ticksLeft < o.ticksLeft := by
  have htcnt := hlegal.low_tcnt hp
  unfold owLowTick
  split_ifs <;> simp only [Ow.ticksLeft, hp] <;> omega

theorem owHighTick_ticksLeft (hlegal : o.Legal b) (hp : o.phase = .high) :
    (owHighTick o).ow.ticksLeft < o.ticksLeft := by
  have htcnt := hlegal.high_tcnt hp
  unfold owHighTick enterSample
  split_ifs
  · rw [owFinish_ticksLeft]
    simp only [Ow.ticksLeft, hp]
    omega
  · simp only [Ow.ticksLeft, hp]
    omega
  · simp only [Ow.ticksLeft, hp]
    omega

theorem owSampleTick_ticksLeft (level : Bool) (hlegal : o.Legal b) (hp : o.phase = .sample) :
    (owSampleTick level o).ow.ticksLeft < o.ticksLeft := by
  obtain ⟨hwin, hcnt⟩ := hlegal.sample_open hp
  have hleft : 0 < o.ticksLeft := by
    simp only [Ow.ticksLeft, hp]
    omega
  by_cases hlevel : level = o.last
  · rw [owSampleTick_of_last hlevel]
    split_ifs
    · rwa [owFinish_ticksLeft]
    · have hsucc : (o.cnt + 1).toNat = o.cnt.toNat + 1 :=
        BitVec.toNat_add_of_lt (y := 1) (show o.cnt.toNat + 1 < 2 ^ 8 by omega)
      simp only [Ow.ticksLeft, hp, hsucc]
      omega
  · rw [owSampleTick_of_ne_last hlevel]
    split_ifs
    · rwa [owFinish_ticksLeft]
    · simp only [Ow.ticksLeft, nextWindow_phase, hp, nextWindow_maxwinL, nextWindow_win hwin, nextWindow_cnt]
      omega

/-- In a legal unit every tick of a read uses up at least one of the ticks left. -/
theorem owUpdate_ticksLeft (level : Bool) (hlegal : o.Legal b) (hbusy : o.phase ≠ .idle) :
    (owUpdate true level o).ow.ticksLeft < o.ticksLeft := by
  cases hp : o.phase with
  | idle => exact absurd hp hbusy
  | low =>
    rw [owUpdate_of_low hp]
    exact owLowTick_ticksLeft hlegal hp
  | high =>
    rw [owUpdate_of_high hp]
    exact owHighTick_ticksLeft hlegal hp
  | sample =>
    rw [owUpdate_of_sample hp]
    exact owSampleTick_ticksLeft level hlegal hp

end

/-- The most cycles the read of a machine can still take: those of the ticks left, less the part of a tick that has
passed. -/
def State.cyclesLeft (s : State) : Nat := s.build.clkPerTick * s.ow.ticksLeft - s.presc

theorem cyclesLeft_of_idle {s : State} (h : s.ow.phase = .idle) : s.cyclesLeft = 0 := by
  rw [State.cyclesLeft, ticksLeft_of_idle h, Nat.mul_zero, Nat.zero_sub]

theorem ticksLeft_pos {b : Build} {o : Ow} (hlegal : o.Legal b) (hbusy : o.phase ≠ .idle) : 0 < o.ticksLeft :=
  Nat.zero_lt_of_lt (owUpdate_ticksLeft true hlegal hbusy)

/-- Every cycle of a busy OW, a reset cycle too, uses up at least one of the cycles left. -/
theorem step_cyclesLeft {s t : State} (hlegal : s.Legal) (hbusy : s.ow.phase ≠ .idle) (h : step s = .next t) :
    t.cyclesLeft < s.cyclesLeft := by
  have hpresc := hlegal.presc_lt
  have hpos : s.build.clkPerTick * 1 ≤ s.build.clkPerTick * s.ow.ticksLeft :=
    Nat.mul_le_mul_left _ (ticksLeft_pos hlegal.ow_legal hbusy)
  have how := step_ow_of_busy h hbusy
  rcases step_cases h with ⟨hr, rfl⟩ | ⟨hr, u, hu, rfl⟩
  · rw [cyclesLeft_of_idle rfl, State.cyclesLeft]
    omega
  · rw [hr, if_neg Bool.false_ne_true] at how
    rw [State.cyclesLeft, State.cyclesLeft, how, merge_build, (hostEffect_legal hlegal hu).2, merge_presc, nextPresc]
    cases htick : s.tick with
    | false =>
      have hbefore : s.presc ≠ s.build.clkPerTick - 1 := by simpa [State.tick] using htick
      rw [owUpdate_of_no_tick, if_neg Bool.false_ne_true]
      dsimp only
      omega
    | true =>
      have hused := Nat.mul_le_mul_left s.build.clkPerTick
        (Nat.succ_le_of_lt (owUpdate_ticksLeft (syncValue s.nextInput.owIn s.owSync) hlegal.ow_legal hbusy))
      rw [Nat.mul_succ] at hused
      rw [if_pos rfl]
      omega

/-- Every state has a next one (70_reset R266). -/
theorem exists_step (s : State) : ∃ t, step s = .next t := by
  cases hr : s.nextInput.rst with
  | true => exact ⟨_, if_pos hr⟩
  | false =>
    obtain ⟨u, hu⟩ := hostEffect_total s.nextInput.transaction s
    exact ⟨_, step_of_hostEffect hr hu⟩

/-- From a legal state OW is idle within the cycles left. -/
theorem exists_run_idle {n : Nat} {s : State} (hlegal : s.Legal) (hn : s.cyclesLeft ≤ n) :
    ∃ k u, Sys2Proof.core.run k s = .next u ∧ u.ow.phase = .idle ∧ k ≤ n := by
  induction n generalizing s with
  | zero =>
    refine ⟨0, s, rfl, by_contra fun hbusy => ?_, le_rfl⟩
    obtain ⟨t, ht⟩ := exists_step s
    have := step_cyclesLeft hlegal hbusy ht
    omega
  | succ n ih =>
    by_cases hidle : s.ow.phase = .idle
    · exact ⟨0, s, rfl, hidle, Nat.zero_le _⟩
    · obtain ⟨t, ht⟩ := exists_step s
      have hless := step_cyclesLeft hlegal hidle ht
      obtain ⟨k, u, hrun, hu, hk⟩ := ih (step_legal hlegal ht).1 (by omega)
      exact ⟨k + 1, u, run_succ.2 ⟨t, ht, hrun⟩, hu, by omega⟩

/-- An OW_READ issued to an idle OW is accepted. -/
theorem step_ow_of_issues {s t : State} (hidle : s.ow.phase = .idle) (hrst : s.nextInput.rst = false)
    (hread : s.Issues .owRead) (h : step s = .next t) :
    t.ow = owAccept s.build s.owCfg s.ow := by
  obtain ⟨off, v, htr, hoff, hdec⟩ := hread
  have hissue : hostEffect s.nextInput.transaction s = .next { s with ow := owAccept s.build s.owCfg s.ow } := by
    rw [show s.nextInput.transaction = _ from htr, hostEffect_write_cmd hoff, issue, hdec]
    exact execOwRead_of_idle hidle
  rw [step_of_hostEffect hrst hissue] at h
  cases h
  exact merge_ow_of_idle _ hidle

/-- Settles O42: the ticks left at the accept are the bound, and a reset ends the read at once. -/
theorem owReadEndsWithinItsBound : Obligations.OwReadEndsWithinItsBound := by
  intro s t hlegal hidle hrst hread h
  obtain ⟨htlegal, hbuild⟩ := step_legal hlegal h
  refine exists_run_idle htlegal ?_
  rw [State.cyclesLeft, hbuild, step_ow_of_issues hidle hrst hread h]
  exact Nat.sub_le _ _

end Sys2Proof.Machine
end

section
/-! PROOFS. The pulse counter (41_pulse_counter R140 to R150): what a PC_TAKE and a cycle make of one line, the account of
its edges over a run, and how long an accepted edge suppresses the next ones. -/

namespace Sys2Proof.Machine

/-! ### PC_TAKE -/

theorem line_of_getElem? {s : State} {n : Nat} {l : Line} (hl : s.lines[n]? = some l) : s.line n = l := by
  rw [State.line, List.getD_eq_getElem?_getD, hl, Option.getD_some]

theorem getElem?_line {s : State} (hs : s.Legal) {n : Nat} (hn : n < s.build.nlines) : s.lines[n]? = some (s.line n) := by
  have hlen : n < s.lines.length := hs.lines_length ▸ hn
  rw [State.line, List.getD_eq_getElem _ _ hlen, List.getElem?_eq_getElem hlen]

theorem exec_pcTake_of_line {s : State} {n : Nat} {l : Line} (hn : n < s.build.nlines) (hl : s.lines[n]? = some l) :
    exec (.pcTake n) s = .next { s with lines := s.lines.set n (takeLine l) } := by
  show execPcTake n s = _
  rw [execPcTake, if_neg (Nat.not_le.2 hn), line_of_getElem? hl]

/-- Settles O32. -/
theorem pcTakeCapturesAndClears : Obligations.PcTakeCapturesAndClears := fun _ _ _ hn hl => exec_pcTake_of_line hn hl

/-- A command takes the one line a PC_TAKE names, and leaves every other line (41_pulse_counter R140, R146). -/
theorem exec_line {i : Instr} {s t : State} {n : Nat} {l : Line} (h : exec i s = .next t) (hn : n < s.build.nlines)
    (hl : s.lines[n]? = some l) : t.lines[n]? = some (if i = .pcTake n then takeLine l else l) := by
  by_cases htake : i = .pcTake n
  · subst htake
    rw [exec_pcTake_of_line hn hl] at h
    cases h
    rw [if_pos rfl, List.getElem?_set_self (List.getElem?_eq_some_iff.1 hl).1]
  · rw [if_neg htake, ← hl]
    cases exec_effect h
    case pcTake m _ => exact List.getElem?_set_ne fun hmn => htake (congrArg _ hmn)
    all_goals rfl

theorem takesLine_iff_command (s : State) (n : Nat) :
    s.takesLine n = true ↔ s.nextTransaction.command = .pcTake n := by
  unfold State.takesLine
  cases s.nextTransaction with
  | idle => simp [Transaction.command]
  | read => simp [Transaction.command]
  | write off v =>
    by_cases hoff : off.toNat / 4 = 1
    · cases hdec : decode v <;> simp [Transaction.command, hoff, hdec]
    · simp [Transaction.command, hoff]

/-! ### A line over a cycle -/

/-- Line `n`, now `l`, as the host's transaction of the cycle leaves it. -/
def State.hostLine (s : State) (n : Nat) (l : Line) : Line := if s.takesLine n then takeLine l else l

/-- A step without reset updates each line, as the host left it, with its own pin. -/
theorem step_line {s t : State} {n : Nat} {l : Line} (hrst : s.nextInput.rst = false) (h : step s = .next t)
    (hn : n < s.build.nlines) (hl : s.lines[n]? = some l) :
    t.lines[n]? =
      some (lineUpdate s.build s.pcCtrl s.tick n (s.nextInput.pcIn.getLsbD n) (s.hostLine n l)) := by
  rcases step_cases h with ⟨hr, -⟩ | ⟨-, u, hu, rfl⟩
  · simp [hrst] at hr
  · obtain ⟨v, hv, -, -, -, hlines⟩ := hostEffect_units hu
    have htake : s.nextInput.transaction.command = .pcTake n ↔ s.takesLine n = true := (takesLine_iff_command s n).symm
    rw [merge_lines, linesUpdate_getElem?, hlines, exec_line hv hn hl, Option.map_some, Nat.zero_add, State.hostLine,
      if_congr htake rfl rfl]

section
variable (s : State) (n : Nat) (l : Line)

@[simp] theorem hostLine_sync : (s.hostLine n l).sync = l.sync := by unfold State.hostLine; split_ifs <;> rfl
@[simp] theorem hostLine_prev : (s.hostLine n l).prev = l.prev := by unfold State.hostLine; split_ifs <;> rfl
@[simp] theorem hostLine_tmr : (s.hostLine n l).tmr = l.tmr := by unfold State.hostLine; split_ifs <;> rfl
@[simp] theorem hostLine_count : (s.hostLine n l).count.toNat = if s.takesLine n then 0 else l.count.toNat := by
  unfold State.hostLine; split_ifs <;> rfl
@[simp] theorem hostLine_taken : (s.hostLine n l).taken = if s.takesLine n then l.count else l.taken := by
  unfold State.hostLine; split_ifs <;> rfl
@[simp] theorem hostLine_ovf : (s.hostLine n l).ovf = if s.takesLine n then false else l.ovf := by
  unfold State.hostLine; split_ifs <;> rfl
@[simp] theorem hostLine_tovf : (s.hostLine n l).tovf = if s.takesLine n then l.ovf else l.tovf := by
  unfold State.hostLine; split_ifs <;> rfl

/-- A take has no part in judging the edge of its cycle (41_pulse_counter R146, R147). -/
@[simp] theorem edgeAccepted_hostLine (c : PcCtrl) (tick pin : Bool) :
    edgeAccepted c tick n pin (s.hostLine n l) = edgeAccepted c tick n pin l := by
  simp [edgeAccepted]

end

/-- The count after a cycle saturates at 32 bits (41_pulse_counter R145). -/
theorem lineUpdate_count_toNat (b : Build) (c : PcCtrl) (tick : Bool) (n : Nat) (pin : Bool) (l : Line) :
    (lineUpdate b c tick n pin l).count.toNat =
      if edgeAccepted c tick n pin l then min (l.count.toNat + 1) (2 ^ 32 - 1) else l.count.toNat := by
  rw [lineUpdate_count]
  split_ifs
  · rw [BitVec.toNat_ofNat, satNat]
    omega
  · rfl

theorem debounceStep_eq (tick : Bool) (tmr : Nat) :
    debounceStep tick tmr = if tick = true ∧ tmr > 0 then tmr - 1 else tmr := by
  simp only [debounceStep, Bool.and_eq_true, decide_eq_true_eq]

/-- Settles O53: the line update on the line as the host left it, field by field. -/
theorem lineStep : Obligations.LineStep := by
  intro s t n l _ hrst h hn hl cur qual accept tmr1 base hcur hqual htmr haccept hbase
  have htmr1 : tmr1 = debounceStep s.tick l.tmr := htmr.trans (debounceStep_eq _ _).symm
  have hedge : edgeAccepted s.pcCtrl s.tick n (s.nextInput.pcIn.getLsbD n) l = accept := by
    rw [haccept, hqual, hcur, htmr1, edgeAccepted, qualifyingEdge]
  refine ⟨_, step_line hrst h hn hl, ?_, ?_, ?_, ?_, ?_, ?_, ?_⟩
  · rw [lineUpdate_sync, hostLine_sync]
  · rw [lineUpdate_prev, hostLine_sync, hcur]
  · rw [lineUpdate_tmr, edgeAccepted_hostLine, hedge, hostLine_tmr, htmr1]
  · rw [lineUpdate_count_toNat, edgeAccepted_hostLine, hedge, hostLine_count, hbase]
  · rw [lineUpdate_ovf, edgeAccepted_hostLine, hedge, hostLine_ovf, hostLine_count, hbase]
    cases s.takesLine n <;> simp
  · rw [lineUpdate_taken, hostLine_taken]
  · rw [lineUpdate_tovf, hostLine_tovf]

/-! ### The account of the edges -/

section
variable {s t : State} {n : Nat}

/-- The cycle of a line that exists, in a legal state. -/
theorem line_step (hs : s.Legal) (hrst : s.nextInput.rst = false) (hn : n < s.build.nlines) (h : step s = .next t) :
    t.line n = lineUpdate s.build s.pcCtrl s.tick n (s.nextInput.pcIn.getLsbD n) (s.hostLine n (s.line n)) :=
  line_of_getElem? (step_line hrst h hn (getElem?_line hs hn))

/-- The count after a cycle: from 0 when taken, and one more for an accepted edge (41_pulse_counter R145). -/
theorem count_step (hs : s.Legal) (hrst : s.nextInput.rst = false) (hn : n < s.build.nlines) (h : step s = .next t) :
    (t.line n).count.toNat =
      if s.acceptsEdge n then min ((if s.takesLine n then 0 else (s.line n).count.toNat) + 1) (2 ^ 32 - 1)
      else if s.takesLine n then 0 else (s.line n).count.toNat := by
  rw [line_step hs hrst hn h, lineUpdate_count_toNat, edgeAccepted_hostLine, hostLine_count, State.acceptsEdge]

/-- Short of saturation one cycle balances: what is captured and what stays are what was there and the edge. -/
theorem edges_balance_step (hs : s.Legal) (hrst : s.nextInput.rst = false) (hn : n < s.build.nlines)
    (h : step s = .next t) (hroom : (s.line n).count.toNat + 1 < 2 ^ 32) :
    (if s.takesLine n then (s.line n).count.toNat else 0) + (t.line n).count.toNat =
      (s.line n).count.toNat + if s.acceptsEdge n then 1 else 0 := by
  rw [count_step hs hrst hn h]
  split_ifs <;> omega

end

theorem edges_balance_run {k : Nat} {s u : State} {n : Nat} (hs : s.Legal) (hr : s.NoReset) (hn : n < s.build.nlines)
    (h : Sys2Proof.core.run k s = .next u) (hroom : (s.line n).count.toNat + k < 2 ^ 32) :
    runSum (fun v => if v.takesLine n then (v.line n).count.toNat else 0) k s + (u.line n).count.toNat =
      (s.line n).count.toNat + runSum (fun v => if v.acceptsEdge n then 1 else 0) k s := by
  induction k generalizing s with
  | zero =>
    cases h
    exact Nat.add_comm _ _
  | succ k ih =>
    obtain ⟨t, ht, htu⟩ := run_succ.1 h
    obtain ⟨hlegal, hbuild⟩ := step_legal hs ht
    have hone := edges_balance_step hs (nextInput_rst_of_noReset hr) hn ht (by omega)
    have hroom' : (t.line n).count.toNat + k < 2 ^ 32 := by split_ifs at hone <;> omega
    have hrest := ih hlegal (noReset_step s t hr ht) (hbuild ▸ hn) htu hroom'
    rw [runSum_succ _ k ht, runSum_succ _ k ht]
    omega

/-- Settles O54: the cycle of a take and an edge, and by induction on the run the balance of every cycle. -/
theorem noEdgeIsLostOrCountedTwice : Obligations.NoEdgeIsLostOrCountedTwice := by
  refine ⟨fun s t n hs hrst hn h htake hedge => ⟨?_, ?_⟩, fun k s u n => edges_balance_run⟩
  · rw [line_step hs hrst hn h, lineUpdate_taken, hostLine_taken, if_pos htake]
  · refine BitVec.eq_of_toNat_eq ?_
    rw [count_step hs hrst hn h, if_pos hedge, if_pos htake]
    rfl

/-! ### The debounce delay -/

/-- How many cycles from now the debounce timer of line `n` fires, the cycle in which an edge is judged against the
cleared flag again (41_pulse_counter R143, R150); 0 when it fires in this cycle or is not running. -/
def State.suppressedCycles (s : State) (n : Nat) : Nat := (s.line n).tmr * s.build.clkPerTick - 1 - s.presc

/-- The tick is the last cycle of the prescaler's period (10_state R24). -/
theorem tick_iff (s : State) : s.tick = true ↔ s.presc = s.build.clkPerTick - 1 := decide_eq_true_iff

section
variable {s t : State} {n : Nat}

theorem tmr_ne_zero_of_suppressed (h : 0 < s.suppressedCycles n) : (s.line n).tmr ≠ 0 := by
  intro htmr
  simp [State.suppressedCycles, htmr] at h

/-- The timer of a suppressed line does not fire: at a tick it still has another tick to run. -/
theorem debounceStep_ne_zero (h : 0 < s.suppressedCycles n) : debounceStep s.tick (s.line n).tmr ≠ 0 := by
  have hrunning := tmr_ne_zero_of_suppressed h
  rw [debounceStep_eq]
  split_ifs with hfire
  · have hlast := (tick_iff s).1 hfire.1
    intro hzero
    rw [State.suppressedCycles, show (s.line n).tmr = 1 by omega] at h
    omega
  · exact hrunning

theorem acceptsEdge_of_suppressed (h : 0 < s.suppressedCycles n) : s.acceptsEdge n = false := by
  rw [State.acceptsEdge, edgeAccepted, decide_eq_false (debounceStep_ne_zero h), Bool.and_false]

theorem step_presc (hrst : s.nextInput.rst = false) (h : step s = .next t) : t.presc = nextPresc s := by
  rcases step_cases h with ⟨hr, -⟩ | ⟨-, u, -, rfl⟩
  · simp [hrst] at hr
  · rfl

theorem tmr_step (hs : s.Legal) (hrst : s.nextInput.rst = false) (hn : n < s.build.nlines) (h : step s = .next t) :
    (t.line n).tmr =
      if s.acceptsEdge n then s.pcCtrl.dbMs.toNat * s.build.ticksPerMs else debounceStep s.tick (s.line n).tmr := by
  rw [line_step hs hrst hn h, lineUpdate_tmr, edgeAccepted_hostLine, hostLine_tmr, State.acceptsEdge]

/-- While the line is suppressed each cycle brings the firing one cycle nearer, whatever edges and takes it sees. -/
theorem suppressedCycles_step (hs : s.Legal) (hrst : s.nextInput.rst = false) (hn : n < s.build.nlines)
    (h : step s = .next t) (hpos : 0 < s.suppressedCycles n) : t.suppressedCycles n + 1 = s.suppressedCycles n := by
  have hpresc := hs.presc_lt
  have htmr := tmr_step hs hrst hn h
  rw [acceptsEdge_of_suppressed hpos, if_neg Bool.false_ne_true, debounceStep_eq] at htmr
  have hrunning := Nat.pos_of_ne_zero (tmr_ne_zero_of_suppressed hpos)
  rw [State.suppressedCycles] at hpos
  rw [State.suppressedCycles, State.suppressedCycles, htmr, step_presc hrst h, (step_legal hs h).2, nextPresc]
  by_cases htick : s.tick = true
  · have hlast : s.presc = s.build.clkPerTick - 1 := (tick_iff s).1 htick
    rw [if_pos ⟨htick, hrunning⟩, if_pos htick, Nat.sub_mul, Nat.one_mul]
    omega
  · rw [if_neg (fun hand => htick hand.1), if_neg htick]
    omega

/-- An accepted edge suppresses the line up to its D-th tick, so for at least (D - 1)*CLK_PER_TICK cycles. -/
theorem suppressedCycles_of_accept (hs : s.Legal) (hrst : s.nextInput.rst = false) (hn : n < s.build.nlines)
    (h : step s = .next t) (hedge : s.acceptsEdge n = true) :
    (s.pcCtrl.dbMs.toNat * s.build.ticksPerMs - 1) * s.build.clkPerTick ≤ t.suppressedCycles n := by
  obtain ⟨hlegal, hbuild⟩ := step_legal hs h
  have hpresc : t.presc < s.build.clkPerTick := hbuild ▸ hlegal.presc_lt
  rw [State.suppressedCycles, tmr_step hs hrst hn h, if_pos hedge, hbuild, Nat.sub_mul, Nat.one_mul]
  omega

end

/-- Over a run shorter than the suppression the line stays suppressed. -/
theorem suppressedCycles_run {k : Nat} {s u : State} {n : Nat} (hs : s.Legal) (hr : s.NoReset)
    (hn : n < s.build.nlines) (h : Sys2Proof.core.run k s = .next u) (hk : k < s.suppressedCycles n) :
    0 < u.suppressedCycles n := by
  induction k generalizing s with
  | zero =>
    cases h
    exact hk
  | succ k ih =>
    obtain ⟨t, ht, htu⟩ := run_succ.1 h
    obtain ⟨hlegal, hbuild⟩ := step_legal hs ht
    have hstep := suppressedCycles_step hs (nextInput_rst_of_noReset hr) hn ht (by omega)
    exact ih hlegal (noReset_step s t hr ht) (hbuild ▸ hn) htu (by omega)

/-- Settles O55: the accepted edge arms the suppression, and each cycle of the run uses up one cycle of it. -/
theorem edgesInsideTheDelayAreIgnored : Obligations.EdgesInsideTheDelayAreIgnored := by
  intro k s t u n hs hr hn hedge h hrun hk
  obtain ⟨hlegal, hbuild⟩ := step_legal hs h
  have harmed := suppressedCycles_of_accept hs (nextInput_rst_of_noReset hr) hn h hedge
  have hpos : 0 < u.suppressedCycles n :=
    suppressedCycles_run hlegal (noReset_step s t hr h) (hbuild ▸ hn) hrun (by omega)
  exact ⟨acceptsEdge_of_suppressed hpos, tmr_ne_zero_of_suppressed hpos⟩

end Sys2Proof.Machine
end

section
/-! PROOFS. VANE (42_vane R170 to R179): the resistance and the nearest entry over the rationals, the fields of VANE_OUT,
and a VANE_RESOLVE from its accept to the end of its countdown. -/

namespace Sys2Proof.Machine

/-! ### The resistance -/

/-- Settles O44: over the denominator c the divider formula is the quotient of two integers, so its floor is their
division. -/
theorem vaneResistanceIsTheFlooredRational : Obligations.VaneResistanceIsTheFlooredRational := by
  intro b c r hc hle
  have hc' : (c : ℚ) ≠ 0 := Nat.cast_ne_zero.2 hc.ne'
  have hquot : (256 : ℚ) * (r * b.adcFs.value / c - r) = (256 * dividerNum b c r : ℕ) / (c : ℚ) := by
    rw [dividerNum, Nat.cast_mul, Nat.cast_mul, Nat.cast_sub hle]
    field_simp
    push_cast
    ring
  rw [hquot, Rat.floor_natCast_div_natCast, vaneResistance, satNat]
  norm_num

/-! ### The nearest entry -/

/-- Entry `k` is the least of the first `n` entries that have the least distance (42_vane R177). -/
def IsLeastNearest (dist : Nat → Nat) (n k : Nat) : Prop :=
  k < n ∧ ∀ j, j < n → dist k ≤ dist j ∧ (j < k → dist k < dist j)

/-- One entry of the scan: the new entry takes over only when it is strictly nearer. -/
theorem isLeastNearest_succ {dist : Nat → Nat} {n k : Nat} (h : IsLeastNearest dist n k) :
    IsLeastNearest dist (n + 1) (if dist n < dist k then n else k) := by
  obtain ⟨hk, hleast⟩ := h
  refine ⟨by split_ifs <;> omega, fun j hj => ?_⟩
  rcases Nat.lt_succ_iff_lt_or_eq.1 hj with hold | rfl
  · obtain ⟨hle, hlt⟩ := hleast j hold
    split_ifs <;> omega
  · split_ifs <;> omega

theorem scanNearest_isLeastNearest {dist : Nat → Nat} {best n : Nat} (fuel : Nat) (h : IsLeastNearest dist n best) :
    IsLeastNearest dist (n + fuel) (scanNearest dist best n fuel) := by
  induction fuel generalizing best n with
  | zero => exact h
  | succ fuel ih =>
    rw [scanNearest, Nat.add_comm fuel, ← Nat.add_assoc]
    exact ih (isLeastNearest_succ h)

theorem nearestEntry_isLeastNearest (b : Build) (c r : Nat) :
    IsLeastNearest (romDistance b c r) 16 (nearestEntry b c r) :=
  scanNearest_isLeastNearest 15 ⟨Nat.one_pos, fun j hj => by
    rw [Nat.lt_one_iff.1 hj]
    exact ⟨le_rfl, fun h => absurd h (Nat.lt_irrefl 0)⟩⟩

/-- "dist(k) = c·|R − VANE_R[k]|" (42_vane R177). -/
theorem romDistance_eq_mul_abs (b : Build) {c r k : Nat} {R : ℚ} (hc : 0 < c) (hle : c ≤ b.adcFs.value)
    (hR : R = (r : ℚ) * ((b.adcFs.value : ℚ) - (c : ℚ)) / (c : ℚ)) (hk : k < 16) :
    (romDistance b c r k : ℚ) = c * |R - ((b.vaneR[k]).toNat : ℚ)| := by
  have hc' : (0 : ℚ) < c := Nat.cast_pos.2 hc
  have hohms : romOhms b k = (b.vaneR[k]).toNat := by rw [romOhms, Vector.getElem?_eq_getElem hk, Option.getD_some]
  have hnum : (dividerNum b c r : ℚ) = c * R := by
    rw [dividerNum, Nat.cast_mul, Nat.cast_sub hle, hR, mul_div_cancel₀ _ hc'.ne']
  calc (romDistance b c r k : ℚ)
      = |(dividerNum b c r : ℚ) - ((romOhms b k * c : Nat) : ℚ)| := by
        rw [romDistance, Nat.cast_natAbs]
        push_cast
        rfl
    _ = |c * (R - ((b.vaneR[k]).toNat : ℚ))| := by
        rw [hnum, hohms]
        push_cast
        ring_nf
    _ = c * |R - ((b.vaneR[k]).toNat : ℚ)| := by rw [abs_mul, abs_of_pos hc']

/-- Settles O45: the scan finds the least entry of least `dist`, and `dist` is the true distance scaled by c. -/
theorem nearestEntryIsTheLeastNearest : Obligations.NearestEntryIsTheLeastNearest := by
  intro b c r R hc hle hR
  obtain ⟨hk, hleast⟩ := nearestEntry_isLeastNearest b c r
  have hc' : (0 : ℚ) < c := Nat.cast_pos.2 hc
  refine ⟨nearestEntry b c r, hk, rfl, fun j hj => ?_⟩
  rw [← mul_le_mul_iff_right₀ hc', ← mul_lt_mul_iff_right₀ hc', ← romDistance_eq_mul_abs b hc hle hR hk,
    ← romDistance_eq_mul_abs b hc hle hR hj, Nat.cast_le, Nat.cast_lt]
  exact hleast j hj

/-! ### VANE_OUT -/

/-- The three fields of VANE_OUT do not overlap (10_state R43). -/
theorem vaneOutWord_toNat {k : Nat} (hk : k < 16) :
    (vaneOutWord k).toNat = 2 ^ 16 * (225 * k) + 2 ^ 4 * (sector (225 * k)).code + k := by
  have hcode := sector_code_lt (sector (225 * k))
  rw [vaneOutWord, romAngle, BitVec.toNat_ofNat]
  omega

/-- A field of a word, as a number. -/
theorem extractLsb'_toNat_eq_div_mod (w : Word) (start len : Nat) :
    (w.extractLsb' start len).toNat = w.toNat / 2 ^ start % 2 ^ len := by
  rw [BitVec.extractLsb'_toNat, Nat.shiftRight_eq_div_pow]

/-- The sector of an angle, case by case (42_vane R178). -/
theorem sector_code_cases (a : Nat) :
    ((3150 ≤ a ∨ a < 450) ∧ (sector a).code = 0) ∨ (450 ≤ a ∧ a < 1350 ∧ (sector a).code = 1) ∨
    (1350 ≤ a ∧ a < 2250 ∧ (sector a).code = 2) ∨ (2250 ≤ a ∧ a < 3150 ∧ (sector a).code = 3) := by
  unfold sector
  split_ifs <;> simp [Sector.code] <;> omega

/-- Settles O46: the fields of a sum whose parts do not overlap, and the four ranges of the sectors. -/
theorem vaneOutFieldsAndSectors : Obligations.VaneOutFieldsAndSectors := by
  refine ⟨fun k hk => ?_, fun a _ => ?_⟩
  · have hcode := sector_code_lt (sector (225 * k))
    have hangle : 225 * k < 2 ^ 12 := by omega
    simp only [← BitVec.toNat_inj, extractLsb'_toNat_eq_div_mod, vaneOutWord_toNat hk, BitVec.toNat_ofNat,
      BitVec.ofNat_eq_ofNat, Nat.reducePow]
    generalize (sector (225 * k)).code = code at *
    generalize 225 * k = angle at *
    refine ⟨?_, ?_, ?_, ?_, ?_⟩ <;> omega
  · have hcases := sector_code_cases a
    omega

/-! ### The verdict and the accept -/

theorem degenerate_iff (b : Build) (c : Nat) : degenerate b c = true ↔ c = 0 ∨ c > b.adcFs.value := by
  simp [degenerate]

/-- `vane_complete` as one equation over R175's condition on the code. -/
theorem vaneComplete_eq (b : Build) (c r : Nat) (v : Vane) :
    vaneComplete b c r v =
      if c = 0 ∨ c > b.adcFs.value then { v with degen := true, valid := false, res := 0, out := 0 }
      else
        { v with
          res := BitVec.ofNat 32 (vaneResistance b c r)
          out := vaneOutWord (nearestEntry b c r)
          degen := false
          valid := true } := by
  rw [vaneComplete]
  exact if_congr (degenerate_iff b c) rfl rfl

theorem execVaneResolve_of_idle {s : State} (c : Nat) (h : s.vane.cnt = 0) :
    exec (.vaneResolve c) s = .next
      (if s.build.vaneLat = 0 then
        { s with
          vane := vaneComplete s.build (BitVec.ofNat 12 c).toNat s.vaneRref.toNat
            (vaneAccept (BitVec.ofNat 12 c) s.vaneRref s.vane)
          irqStatus := s.irqStatus ||| irqMask .vaneDone }
      else { s with vane := { vaneAccept (BitVec.ofNat 12 c) s.vaneRref s.vane with cnt := s.build.vaneLat } }) := by
  show execVaneResolve c s = _
  rw [execVaneResolve, if_neg (by simp [h]), irqWith_true]

/-- Settles O28, at either latency; every encodable code is latched whole. -/
theorem vaneResolveWhenIdle : Obligations.VaneResolveWhenIdle := by
  intro s c hc hidle
  have hcode : (BitVec.ofNat 12 c).toNat = c := by
    rw [BitVec.toNat_ofNat, Nat.mod_eq_of_lt (by omega)]
  rw [execVaneResolve_of_idle c hidle, hcode, vaneComplete_eq, vaneAccept, hidle]
  rfl

/-! ### The countdown -/

theorem vaneUpdate_of_ne_one {b : Build} {v : Vane} (h : v.cnt ≠ 1) : vaneUpdate b v = { v with cnt := v.cnt - 1 } := by
  simp [vaneUpdate, vaneCompletes, h]

theorem vaneUpdate_of_one {b : Build} {v : Vane} (h : v.cnt = 1) :
    vaneUpdate b v = vaneComplete b v.cL.toNat v.rL.toNat { v with cnt := 0 } := by
  simp [vaneUpdate, vaneCompletes, h]

theorem hostEffect_build {tr : Transaction} {s t : State} (h : hostEffect tr s = .next t) : t.build = s.build := by
  rcases hostEffect_cases h with rfl | ⟨_, v, r, -, -, -, rfl⟩ | ⟨_, _, i, -, -, -, hexec⟩ | ⟨_, _, _, -, -, -, rfl⟩
  · rfl
  · exact (regWrite_frame r v s).1
  · cases exec_effect hexec <;> rfl
  · rfl

/-- No step changes the build (00_scope R7). -/
theorem step_build {s t : State} (h : step s = .next t) : t.build = s.build := by
  rcases step_cases h with ⟨-, rfl⟩ | ⟨-, u, hu, rfl⟩
  · rfl
  · rw [merge_build, hostEffect_build hu]

/-- A busy VANE counts down in a cycle without reset, whatever the host does (44_control R223). -/
theorem step_vane_of_busy {s t : State} (hrst : s.nextInput.rst = false) (h : step s = .next t) (hbusy : s.vane.cnt ≠ 0) :
    t.vane = vaneUpdate s.build s.vane := by
  rcases step_cases h with ⟨hr, -⟩ | ⟨-, u, -, rfl⟩
  · simp [hrst] at hr
  · rw [merge_vane, vaneAfter, if_pos ((vaneBusy_iff s).2 hbusy)]

/-- The last cycle of the countdown sets VANE_DONE, against a clear too (10_state R38, 60_exceptions R232). -/
theorem step_vaneDone {s t : State} (hrst : s.nextInput.rst = false) (h : step s = .next t) (hend : s.vane.cnt = 1) :
    t.irqStatus.getLsbD 1 = true := by
  rcases step_cases h with ⟨hr, -⟩ | ⟨-, u, -, rfl⟩
  · simp [hrst] at hr
  · simp [merge_irqStatus, irqAfter, irqWith_getLsbD, vaneBusy, vaneCompletes, hend, irqMask]

/-- Short of its end the countdown is all that changes. -/
theorem run_vane_of_lt {k : Nat} {s t : State} (hr : s.NoReset) (hk : k < s.vane.cnt)
    (h : Sys2Proof.core.run k s = .next t) :
    t.build = s.build ∧ t.vane = { s.vane with cnt := s.vane.cnt - k } := by
  induction k generalizing t with
  | zero =>
    cases h
    exact ⟨rfl, rfl⟩
  | succ k ih =>
    obtain ⟨u, hu, hut⟩ := run_succ_last.1 h
    obtain ⟨hbuild, hvane⟩ := ih (by omega) hu
    have hrst := nextInput_rst_of_noReset (run_keeps State.NoReset noReset_step k hr hu)
    have hcnt : u.vane.cnt = s.vane.cnt - k := by rw [hvane]
    refine ⟨(step_build hut).trans hbuild, ?_⟩
    rw [step_vane_of_busy hrst hut (by omega), vaneUpdate_of_ne_one (by omega), hvane]
    rfl

/-- Settles O47: all cycles but the last count down, and the last completes with what the accept latched. -/
theorem vaneCompletesAfterItsLatency : Obligations.VaneCompletesAfterItsLatency := by
  intro k s t hr hbusy h
  refine ⟨fun hk => (run_vane_of_lt hr hk h).2, fun hk => ?_⟩
  obtain ⟨m, rfl⟩ := Nat.exists_eq_succ_of_ne_zero (hk ▸ hbusy)
  obtain ⟨u, hu, hut⟩ := run_succ_last.1 h
  obtain ⟨hbuild, hvane⟩ := run_vane_of_lt hr (by omega) hu
  have hrst := nextInput_rst_of_noReset (run_keeps State.NoReset noReset_step m hr hu)
  have hend : u.vane.cnt = 1 := by
    rw [hvane]
    dsimp only
    omega
  refine ⟨?_, step_vaneDone hrst hut hend⟩
  rw [step_vane_of_busy hrst hut (by omega), vaneUpdate_of_one hend, vaneComplete_eq, hbuild, hvane]

end Sys2Proof.Machine
end

section
/-! PROOFS. The sine ROM (43_circular_mean R190 to R192).  Each entry is held against the exact power of a
Gaussian integer that rotates by one decidegree but for an error of 10^-14, far below the room that the entries leave to a
tie; the two check sums; and the quadrants. -/

namespace Sys2Proof.Machine

/-! ### One decidegree -/

/-- The rotation by one decidegree in units of 10^-15, both coordinates rounded down. -/
def romRotation : GaussianInt := ⟨999998476913287, 1745328365898⟩

/-- The same rotation as a complex number. -/
noncomputable def romTurn : ℂ := (romRotation : ℂ) / 10 ^ 15

theorem romTurn_eq : romTurn = ⟨999998476913287 / 10 ^ 15, 1745328365898 / 10 ^ 15⟩ := by
  apply Complex.ext <;> simp [romTurn, romRotation, GaussianInt.toComplex_def₂, ← Complex.ofReal_ofNat,
    ← Complex.ofReal_pow]

theorem norm_romTurn_le : ‖romTurn‖ ≤ 1 := by
  rw [romTurn_eq, Complex.norm_def, Real.sqrt_le_one, Complex.normSq_mk]
  norm_num

/-- The angle of one decidegree in radians, to 19 places. -/
theorem decidegree_bounds :
    17453292519943295 / 10 ^ 19 < Real.pi / 1800 ∧ Real.pi / 1800 < 17453292519943296 / 10 ^ 19 := by
  constructor <;> linarith [Real.pi_gt_d20, Real.pi_lt_d20]

/-- The first five terms of the exponential series of `δ * I`. -/
theorem expSeries_eq (δ : ℝ) :
    ∑ m ∈ Finset.range 5, ((δ : ℂ) * Complex.I) ^ m / (m.factorial : ℂ) =
      ⟨1 - δ ^ 2 / 2 + δ ^ 4 / 24, δ - δ ^ 3 / 6⟩ := by
  simp only [Finset.sum_range_succ, Finset.sum_range_zero, mul_pow, Complex.I_pow_four, Complex.I_sq,
    Complex.I_pow_three, Nat.factorial]
  apply Complex.ext <;> simp [← Complex.ofReal_pow] <;> ring

/-- For an angle of one decidegree five terms of the series are enough. -/
theorem norm_exp_sub_romTurn_le : ‖Complex.exp ((Real.pi / 1800 : ℝ) * Complex.I) - romTurn‖ ≤ 1 / 10 ^ 14 := by
  obtain ⟨hlow, hhigh⟩ := decidegree_bounds
  generalize Real.pi / 1800 = δ at *
  have hpos : 0 < δ := by linarith
  have hnorm : ‖(δ : ℂ) * Complex.I‖ = δ := by simp [hpos.le]
  have hpow : ∀ n, (17453292519943295 / 10 ^ 19) ^ n ≤ δ ^ n ∧ δ ^ n ≤ (17453292519943296 / 10 ^ 19) ^ n := fun n =>
    ⟨pow_le_pow_left₀ (by norm_num) hlow.le n, pow_le_pow_left₀ hpos.le hhigh.le n⟩
  obtain ⟨hlow2, hhigh2⟩ := hpow 2
  obtain ⟨hlow3, hhigh3⟩ := hpow 3
  obtain ⟨hlow4, hhigh4⟩ := hpow 4
  have htail : ‖Complex.exp (δ * Complex.I) - ⟨1 - δ ^ 2 / 2 + δ ^ 4 / 24, δ - δ ^ 3 / 6⟩‖ ≤ 1 / 10 ^ 15 := by
    have hbound := Complex.exp_bound (x := δ * Complex.I) (by rw [hnorm]; linarith) (n := 5) (by norm_num)
    rw [expSeries_eq, hnorm] at hbound
    refine hbound.trans ?_
    have hhigh5 := (hpow 5).2
    norm_num [Nat.factorial] at hhigh5 ⊢
    linarith
  have hround : ‖(⟨1 - δ ^ 2 / 2 + δ ^ 4 / 24, δ - δ ^ 3 / 6⟩ : ℂ) - romTurn‖ ≤ 2 / 10 ^ 15 := by
    refine (Complex.norm_le_abs_re_add_abs_im _).trans ?_
    have hre : |1 - δ ^ 2 / 2 + δ ^ 4 / 24 - 999998476913287 / 10 ^ 15| ≤ 1 / 10 ^ 15 := by
      rw [abs_le]
      constructor <;> linarith
    have him : |δ - δ ^ 3 / 6 - 1745328365898 / 10 ^ 15| ≤ 1 / 10 ^ 15 := by
      rw [abs_le]
      constructor <;> linarith
    rw [romTurn_eq, Complex.sub_re, Complex.sub_im]
    linarith
  linarith [norm_sub_le_norm_sub_add_norm_sub (Complex.exp (δ * Complex.I))
    ⟨1 - δ ^ 2 / 2 + δ ^ 4 / 24, δ - δ ^ 3 / 6⟩ romTurn]

/-! ### Many decidegrees -/

/-- Inside the unit disc the error of a power grows with its exponent only. -/
theorem norm_pow_sub_pow_le_mul {u w : ℂ} (hu : ‖u‖ ≤ 1) (hw : ‖w‖ ≤ 1) (i : ℕ) : ‖u ^ i - w ^ i‖ ≤ i * ‖u - w‖ := by
  induction i with
  | zero => simp
  | succ i ih =>
    have hpow : ‖u ^ i‖ ≤ 1 := by
      rw [norm_pow]
      exact pow_le_one₀ (norm_nonneg u) hu
    calc ‖u ^ (i + 1) - w ^ (i + 1)‖
        = ‖u ^ i * (u - w) + (u ^ i - w ^ i) * w‖ := by ring_nf
      _ ≤ ‖u ^ i‖ * ‖u - w‖ + ‖u ^ i - w ^ i‖ * ‖w‖ := by
        rw [← norm_mul, ← norm_mul]
        exact norm_add_le _ _
      _ ≤ 1 * ‖u - w‖ + i * ‖u - w‖ * 1 := by gcongr
      _ = (i + 1 : ℕ) * ‖u - w‖ := by
        push_cast
        ring

/-- The sine of `i` decidegrees is the imaginary part of the `i`-th power of the rotation, nearly. -/
theorem abs_sin_sub_romRotation_le {i : ℕ} (hi : i ≤ 900) :
    |Real.sin (i * Real.pi / 1800) - (romRotation ^ i).im / (10 ^ 15) ^ i| ≤ 900 / 10 ^ 14 := by
  have hsin : Real.sin (i * Real.pi / 1800) = (Complex.exp ((Real.pi / 1800 : ℝ) * Complex.I) ^ i).im := by
    rw [← Complex.exp_nat_mul, ← mul_assoc, ← Complex.ofReal_natCast, ← Complex.ofReal_mul, Complex.exp_ofReal_mul_I_im,
      mul_div_assoc]
  have hpower : ((romRotation ^ i).im / (10 ^ 15) ^ i : ℝ) = (romTurn ^ i).im := by
    rw [romTurn, div_pow, ← map_pow, GaussianInt.intCast_im]
    norm_cast
    rw [Complex.div_natCast_im]
  rw [hsin, hpower, ← Complex.sub_im]
  calc |(Complex.exp ((Real.pi / 1800 : ℝ) * Complex.I) ^ i - romTurn ^ i).im|
      ≤ i * ‖Complex.exp ((Real.pi / 1800 : ℝ) * Complex.I) - romTurn‖ :=
        (Complex.abs_im_le_norm _).trans
          (norm_pow_sub_pow_le_mul (Complex.norm_exp_ofReal_mul_I _).le norm_romTurn_le i)
    _ ≤ 900 * (1 / 10 ^ 14) := by
      have hi' : (i : ℝ) ≤ 900 := by exact_mod_cast hi
      have hone := norm_exp_sub_romTurn_le
      gcongr
    _ = 900 / 10 ^ 14 := by ring

/-! ### The entries -/

/-- Whether the entry `t` is within 0.499519 of 16384 times the imaginary part of `z / d`, in integers. -/
def nearSine (t : Nat) (z : GaussianInt) (d : Nat) : Bool :=
  decide (1000000 * (d * t - 16384 * z.im).natAbs ≤ 499519 * d)

/-- Whether each entry of a table is near the sine of its angle, where `z / d` is the vector of the first. -/
def followsRotation : List Nat → GaussianInt → Nat → Bool
  | [], _, _ => true
  | t :: ts, z, d => nearSine t z d && followsRotation ts (z * romRotation) (10 ^ 15 * d)

theorem followsRotation_getElem? {ts : List Nat} {z : GaussianInt} {d : Nat} (h : followsRotation ts z d = true)
    {i t : Nat} (ht : ts[i]? = some t) : nearSine t (z * romRotation ^ i) ((10 ^ 15) ^ i * d) = true := by
  induction ts generalizing z d i with
  | nil => simp at ht
  | cons t' ts ih =>
    rw [followsRotation, Bool.and_eq_true] at h
    obtain ⟨hfirst, hrest⟩ := h
    cases i with
    | zero =>
      obtain rfl : t' = t := by simpa using ht
      simpa using hfirst
    | succ i =>
      rw [pow_succ' _ i, pow_succ _ i, ← mul_assoc z, mul_assoc _ (10 ^ 15) d]
      exact ih hrest (by simpa using ht)

/-- The integers of `nearSine` over the reals. -/
theorem abs_sub_le_of_nearSine {t : Nat} {z : GaussianInt} {d : Nat} (hd : 0 < d) (h : nearSine t z d = true) :
    |(t : ℝ) - 16384 * (z.im / d)| ≤ 499519 / 1000000 := by
  have hd' : (0 : ℝ) < d := Nat.cast_pos.2 hd
  have hcheck : (1000000 : ℝ) * |(d * t - 16384 * z.im : ℝ)| ≤ 499519 * d := by
    have hint := of_decide_eq_true h
    rw [← Nat.cast_le (α := ℝ)] at hint
    push_cast [Nat.cast_natAbs] at hint
    exact hint
  have hscale : d * |(t : ℝ) - 16384 * (z.im / d)| = |(d * t - 16384 * z.im : ℝ)| := by
    rw [← abs_of_pos hd', ← abs_mul, abs_of_pos hd']
    congr 1
    field_simp
  refine le_of_mul_le_mul_left ?_ hd'
  linarith

theorem sinqTable_length : sinqTable.length = 901 := by decide +kernel

theorem sinqTable_followsRotation : followsRotation sinqTable 1 1 = true := by decide +kernel

theorem sinqTable_getElem? {i : Nat} (hi : i ≤ 900) : sinqTable[i]? = some (sinqTable.getD i 0) := by
  have hlt : i < sinqTable.length := by rw [sinqTable_length]; omega
  simp [hlt]

theorem abs_sinqT_sub_sin_le {i : Nat} (hi : i ≤ 900) :
    |(sinqT i : ℝ) - 16384 * Real.sin (i * Real.pi / 1800)| ≤ 1 / 2 - 48 / 100000 := by
  have hnear := followsRotation_getElem? sinqTable_followsRotation (sinqTable_getElem? hi)
  have hentry := abs_sub_le_of_nearSine (by positivity) hnear
  have hsin := abs_sin_sub_romRotation_le hi
  rw [one_mul, mul_one] at hentry
  push_cast at hentry
  rw [sinqT, Int.cast_natCast]
  rw [abs_le] at *
  constructor <;> linarith

/-! ### The check sums -/

/-- The entries of a table, each times the weight of its index, the first of which is `i`. -/
def weightedSum (w : Nat → Nat) : List Nat → Nat → Nat
  | [], _ => 0
  | t :: ts, i => w i * t + weightedSum w ts (i + 1)

theorem sum_map_range_eq_weightedSum (w : Nat → Nat) (ts : List Nat) (i : Nat) :
    ((List.range ts.length).map fun j => w (i + j) * ts.getD j 0).sum = weightedSum w ts i := by
  induction ts generalizing i with
  | nil => rfl
  | cons t ts ih =>
    simp [weightedSum, ← ih, List.range_succ_eq_map, Function.comp_def, Nat.add_assoc, Nat.add_comm 1]

theorem sum_mul_sinqT (w : Nat → Nat) :
    ((List.range 901).map fun i => (w i : ℤ) * sinqT i).sum = weightedSum w sinqTable 0 := by
  rw [← sum_map_range_eq_weightedSum, sinqTable_length, Nat.cast_list_sum]
  simp [sinqT, Function.comp_def]

/-- Settles O49: the table follows the rotation, and its sums, evaluated. -/
theorem sineRomIsTheRoundedSine : Obligations.SineRomIsTheRoundedSine := by
  refine ⟨fun i hi => abs_sinqT_sub_sin_le hi, ?_, ?_⟩
  · have hsum : weightedSum (fun _ => 1) sinqTable 0 = 9395517 := by decide +kernel
    simpa [hsum] using sum_mul_sinqT fun _ => 1
  · have hsum : weightedSum (fun i => i + 1) sinqTable 0 = 5395313851 := by decide +kernel
    rw [sum_mul_sinqT fun i => i + 1, hsum]
    rfl

/-! ### The quarter-wave table -/

/-- The sine of angle `i` of each quadrant. -/
theorem sinq_quadrants {i : Nat} (hi : i < 900) :
    sinq i = sinqT i ∧ sinq (900 + i) = sinqT (900 - i) ∧ sinq (1800 + i) = -sinqT i ∧
    sinq (2700 + i) = -sinqT (900 - i) := by
  have h0 : i / 900 = 0 ∧ i % 900 = i := by omega
  have h1 : (900 + i) / 900 = 1 ∧ (900 + i) % 900 = i := by omega
  have h2 : (1800 + i) / 900 = 2 ∧ (1800 + i) % 900 = i := by omega
  have h3 : (2700 + i) / 900 = 3 ∧ (2700 + i) % 900 = i := by omega
  simp [sinq, h0, h1, h2, h3]

theorem cosq_eq_sinq {a b : Nat} (h : (a + 900) % 3600 = b) : cosq a = sinq b := by rw [cosq, h]

/-- Settles O50: SINQ by quadrant, and COSQ a quadrant further, past the last one back in the first. -/
theorem sineAndCosineFollowTheQuarterTable : Obligations.SineAndCosineFollowTheQuarterTable := by
  intro i hi
  obtain ⟨h0, h1, h2, h3⟩ := sinq_quadrants hi
  exact ⟨h0, h1, h2, h3, cosq_eq_sinq (by omega), cosq_eq_sinq (by omega), cosq_eq_sinq (by omega),
    cosq_eq_sinq (by omega)⟩

end Sys2Proof.Machine
end

section
/-! PROOFS. The rounded direction of the sums (43_circular_mean R197, R198, R200): a turning measures a multiple of the
angle of its vector, so counting full turns of the 3600th power rounds the angle in decidegrees. -/

namespace Sys2Proof.Machine

/-! ### The angle of a vector -/

/-- `φ`, in [0, one turn), is the angle of the vector (x, y), which is not (0, 0). -/
structure HasAngle (x y : ℤ) (φ : ℝ) : Prop where
  nonneg : 0 ≤ φ
  lt_turn : φ < 2 * Real.pi
  polar : ∃ r : ℝ, 0 < r ∧ (x : ℝ) = r * Real.cos φ ∧ (y : ℝ) = r * Real.sin φ

/-- Every vector but (0, 0) has an angle: its argument, brought into [0, one turn) (43_circular_mean R197). -/
theorem hasAngle_arg {x y : ℤ} (h : ¬(y = 0 ∧ x = 0)) :
    HasAngle x y
      (if Complex.arg ⟨x, y⟩ < 0 then Complex.arg ⟨x, y⟩ + 2 * Real.pi else Complex.arg ⟨x, y⟩) := by
  have hlow := Complex.neg_pi_lt_arg ⟨x, y⟩
  have hhigh := Complex.arg_le_pi ⟨x, y⟩
  have hpi := Real.pi_pos
  have hne : (⟨x, y⟩ : ℂ) ≠ 0 := fun h0 => h (by simpa [Complex.ext_iff, and_comm] using h0)
  have hx := (Complex.norm_mul_cos_arg ⟨x, y⟩).symm
  have hy := (Complex.norm_mul_sin_arg ⟨x, y⟩).symm
  split_ifs with hneg
  · exact ⟨by linarith, by linarith, _, norm_pos_iff.2 hne, by rwa [Real.cos_add_two_pi], by rwa [Real.sin_add_two_pi]⟩
  · exact ⟨not_lt.1 hneg, by linarith, _, norm_pos_iff.2 hne, hx, hy⟩

/-- The angle does not depend on the length. -/
theorem HasAngle.scale {x y : ℤ} {φ : ℝ} (h : HasAngle x y φ) {k : ℤ} (hk : 0 < k) : HasAngle (k * x) (k * y) φ := by
  obtain ⟨h0, hlt, r, hr, hx, hy⟩ := h
  refine ⟨h0, hlt, k * r, mul_pos (Int.cast_pos.2 hk) hr, ?_, ?_⟩ <;> push_cast <;> simp only [hx, hy, mul_assoc]

/-- The product of two vectors has the sum of their angles, less a full turn where there is one. -/
theorem HasAngle.mul {x y u v : ℤ} {φ ψ : ℝ} (h : HasAngle x y φ) (h' : HasAngle u v ψ) :
    HasAngle (x * u - y * v) (x * v + y * u)
      (if φ + ψ < 2 * Real.pi then φ + ψ else φ + ψ - 2 * Real.pi) := by
  obtain ⟨h0, hlt, r, hr, hx, hy⟩ := h
  obtain ⟨h0', hlt', r', hr', hu, hv⟩ := h'
  have hcos : ((x * u - y * v : ℤ) : ℝ) = r * r' * Real.cos (φ + ψ) := by
    rw [Real.cos_add]
    push_cast
    rw [hx, hy, hu, hv]
    ring
  have hsin : ((x * v + y * u : ℤ) : ℝ) = r * r' * Real.sin (φ + ψ) := by
    rw [Real.sin_add]
    push_cast
    rw [hx, hy, hu, hv]
    ring
  split_ifs with hturn
  · exact ⟨by linarith, hturn, _, mul_pos hr hr', hcos, hsin⟩
  · exact ⟨by linarith, by linarith, _, mul_pos hr hr', by rwa [Real.cos_sub_two_pi], by rwa [Real.sin_sub_two_pi]⟩

/-! ### Comparing angles by signs -/

theorem firstHalf_eq_true_iff (x y : ℤ) : firstHalf x y = true ↔ 0 < y ∨ (y = 0 ∧ 0 < x) := by
  simp [firstHalf]

/-- The signs of a vector tell the half of the turn its angle is in. -/
theorem HasAngle.firstHalf_iff {x y : ℤ} {φ : ℝ} (h : HasAngle x y φ) : firstHalf x y = true ↔ φ < Real.pi := by
  obtain ⟨h0, hlt, r, hr, hx, hy⟩ := h
  rw [firstHalf_eq_true_iff, ← Int.cast_pos (R := ℝ), ← Int.cast_eq_zero (α := ℝ),
    ← Int.cast_pos (R := ℝ) (n := x), hx, hy]
  have hpi := Real.pi_pos
  rcases h0.eq_or_lt with rfl | hpos
  · simp [hr, hpi]
  rcases lt_trichotomy φ Real.pi with hfirst | rfl | hsecond
  · exact iff_of_true (.inl (mul_pos hr (Real.sin_pos_of_pos_of_lt_pi hpos hfirst))) hfirst
  · simp [hr.le]
  · have hsin : r * Real.sin φ < 0 := by
      rw [← Real.sin_sub_two_pi]
      exact mul_neg_of_pos_of_neg hr (Real.sin_neg_of_neg_of_neg_pi_lt (by linarith) (by linarith))
    exact iff_of_false (by rintro (hgt | ⟨heq, -⟩) <;> linarith) hsecond.not_gt

/-- Short of half a turn either way, the sine has the sign of its angle. -/
theorem sin_pos_iff_of_abs_lt_pi {x : ℝ} (hlow : -Real.pi < x) (hhigh : x < Real.pi) : 0 < Real.sin x ↔ 0 < x := by
  refine ⟨fun hsin => ?_, fun hx => Real.sin_pos_of_pos_of_lt_pi hx hhigh⟩
  by_contra hx
  exact (Real.sin_nonpos_of_nonpos_of_neg_pi_le (not_lt.1 hx) hlow.le).not_gt hsin

/-- In one half of the turn the cross product orders two angles; else their halves do. -/
theorem HasAngle.before_iff {x y u v : ℤ} {φ ψ : ℝ} (h : HasAngle x y φ) (h' : HasAngle u v ψ) :
    angleBefore x y u v = true ↔ φ < ψ := by
  have hhalf := h.firstHalf_iff
  have hhalf' := h'.firstHalf_iff
  obtain ⟨h0, hlt, r, hr, hx, hy⟩ := h
  obtain ⟨h0', hlt', r', hr', hu, hv⟩ := h'
  have hcross : ((x * v - y * u : ℤ) : ℝ) = r * r' * Real.sin (ψ - φ) := by
    rw [Real.sin_sub]
    push_cast
    rw [hx, hy, hu, hv]
    ring
  unfold angleBefore
  split_ifs with hsame
  · have hsides : φ < Real.pi ↔ ψ < Real.pi := by rw [← hhalf, ← hhalf', hsame]
    have hnear : -Real.pi < ψ - φ ∧ ψ - φ < Real.pi := by
      by_cases hφ : φ < Real.pi
      · have := hsides.1 hφ
        constructor <;> linarith
      · have := not_lt.1 (mt hsides.2 hφ)
        constructor <;> linarith
    rw [decide_eq_true_iff, ← Int.cast_pos (R := ℝ), hcross, mul_pos_iff_of_pos_left (mul_pos hr hr'),
      sin_pos_iff_of_abs_lt_pi hnear.1 hnear.2, sub_pos]
  · rw [hhalf]
    refine ⟨fun hφ => ?_, fun hφψ => ?_⟩
    · have hψ : ¬ψ < Real.pi := fun hψ => hsame (by rw [hhalf.2 hφ, hhalf'.2 hψ])
      linarith
    · by_contra hφ
      have hψ : ¬ψ < Real.pi := by linarith
      exact hsame (by rw [Bool.eq_false_iff.2 (mt hhalf.1 hφ), Bool.eq_false_iff.2 (mt hhalf'.1 hψ)])

/-! ### Turnings -/

/-- `t` holds the whole angle `x`: its full turns, and what remains as the angle of its vector. -/
def Turning.Measures (t : Turning) (x : ℝ) : Prop := ∃ φ, HasAngle t.re t.im φ ∧ x = 2 * Real.pi * t.turns + φ

theorem Turning.Measures.double {t : Turning} {x : ℝ} (h : t.Measures x) : t.double.Measures (2 * x) := by
  obtain ⟨φ, hφ, rfl⟩ := h
  have hsquare : HasAngle t.double.re t.double.im (if φ + φ < 2 * Real.pi then φ + φ else φ + φ - 2 * Real.pi) := by
    have him : t.double.im = t.re * t.im + t.im * t.re := by
      simp only [Turning.double]
      ring
    rw [him]
    exact hφ.mul hφ
  have hturn : φ + φ < 2 * Real.pi ↔ firstHalf t.re t.im = true := by
    rw [hφ.firstHalf_iff]
    constructor <;> intro <;> linarith
  refine ⟨_, hsquare, ?_⟩
  simp only [Turning.double, hturn]
  split_ifs <;> push_cast <;> ring

theorem Turning.Measures.plus {t : Turning} {c s : ℤ} {x θ : ℝ} (h : t.Measures x) (hθ : HasAngle c s θ) :
    (t.plus c s).Measures (x + θ) := by
  obtain ⟨φ, hφ, rfl⟩ := h
  have hprod := hφ.mul hθ
  have hturn : φ + θ < 2 * Real.pi ↔ ¬angleBefore (t.re * c - t.im * s) (t.re * s + t.im * c) c s = true := by
    have h0 := hφ.nonneg
    have hlt := hφ.lt_turn
    rw [hprod.before_iff hθ]
    split_ifs with hsum
    · exact iff_of_true hsum (by linarith)
    · exact iff_of_false hsum (not_not.2 (by linarith))
  refine ⟨_, hprod, ?_⟩
  simp only [Turning.plus, hturn, ite_not]
  split_ifs <;> push_cast <;> ring

/-- The number whose binary digits, most significant first, are those of `m` and then `ds`. -/
def appendDigits (m : ℕ) (ds : List Bool) : ℕ := ds.foldl (fun n d => 2 * n + d.toNat) m

/-- One digit of square and multiply. -/
theorem Turning.Measures.digit {t : Turning} {c s : ℤ} {θ : ℝ} {m : ℕ} (h : t.Measures (m * θ)) (hθ : HasAngle c s θ)
    (d : Bool) : (t.digit c s d).Measures ((2 * m + d.toNat : ℕ) * θ) := by
  have hvalue : ((2 * m + d.toNat : ℕ) : ℝ) * θ = 2 * (m * θ) + d.toNat * θ := by
    push_cast
    ring
  rw [hvalue]
  cases d with
  | false => simpa [Turning.digit] using h.double
  | true => simpa [Turning.digit] using h.double.plus hθ

/-- Square and multiply: reading digits multiplies the angle by the number they write. -/
theorem foldl_digit_measures {c s : ℤ} {θ : ℝ} (hθ : HasAngle c s θ) (ds : List Bool) {t : Turning} {m : ℕ}
    (h : t.Measures (m * θ)) : (ds.foldl (Turning.digit c s) t).Measures (appendDigits m ds * θ) := by
  induction ds generalizing t m with
  | nil => exact h
  | cons d ds ih => exact ih (h.digit hθ d)

theorem turning3600_measures {c s : ℤ} {θ : ℝ} (hθ : HasAngle c s θ) : (turning3600 c s).Measures (3600 * θ) := by
  have hone : (⟨0, c, s⟩ : Turning).Measures ((1 : ℕ) * θ) := ⟨θ, hθ, by simp⟩
  simpa [turning3600, appendDigits] using foldl_digit_measures hθ
    [true, true, false, false, false, false, true, false, false, false, false] hone

/-- Rounding to whole turns: up exactly when half a turn or more remains. -/
theorem roundedTurns_eq_floor {t : Turning} {x : ℝ} (h : t.Measures x) :
    (roundedTurns t : ℤ) = ⌊x / (2 * Real.pi) + 1 / 2⌋ := by
  obtain ⟨φ, hφ, rfl⟩ := h
  have h0 := hφ.nonneg
  have hlt := hφ.lt_turn
  have hpi := Real.two_pi_pos
  have hsplit : (2 * Real.pi * t.turns + φ) / (2 * Real.pi) = t.turns + φ / (2 * Real.pi) := by field_simp
  have hfrac0 : 0 ≤ φ / (2 * Real.pi) := div_nonneg h0 hpi.le
  have hfrac1 : φ / (2 * Real.pi) < 1 := (div_lt_one hpi).2 hlt
  have hhalf : firstHalf t.re t.im = true ↔ φ / (2 * Real.pi) < 1 / 2 := by
    rw [hφ.firstHalf_iff, div_lt_iff₀ hpi]
    constructor <;> intro <;> linarith
  rw [hsplit, eq_comm, Int.floor_eq_iff, roundedTurns]
  simp only [hhalf]
  split_ifs <;> push_cast <;> constructor <;> linarith

/-! ### The mean -/

/-- The rounding of an angle to decidegrees, 3600 taken to 0 (43_circular_mean R198). -/
noncomputable def roundedDeci (theta : ℝ) : ℤ := if ⌊theta + 1 / 2⌋ = 3600 then 0 else ⌊theta + 1 / 2⌋

theorem meanDeci_eq_roundedDeci {c s : ℤ} {θ : ℝ} (hθ : HasAngle c s θ) :
    (meanDeci s c : ℤ) = roundedDeci (θ * 1800 / Real.pi) := by
  have hdeci : 3600 * θ / (2 * Real.pi) = θ * 1800 / Real.pi := by
    have hpi := Real.pi_ne_zero
    field_simp
    ring
  have hround := roundedTurns_eq_floor (turning3600_measures hθ)
  rw [hdeci] at hround
  rw [meanDeci, roundedDeci, ← hround]
  split_ifs <;> omega

/-- Settles O51: the argument is the angle of the vector, and the mean rounds that angle. -/
theorem meanIsTheRoundedDirection : Obligations.MeanIsTheRoundedDirection := by
  rintro S C theta hne rfl
  rw [meanDeci_eq_roundedDeci (hasAngle_arg hne), roundedDeci]
  have hturn : ∀ a : ℝ, (a + 2 * Real.pi) * 1800 / Real.pi = a * 1800 / Real.pi + 3600 := fun a => by
    have hpi := Real.pi_ne_zero
    field_simp
    ring
  by_cases hneg : Complex.arg ⟨C, S⟩ < 0
  · simp only [if_pos hneg, hturn]
  · simp only [if_neg hneg]

/-! ### Lengths, axes and quadrants -/

/-- The mean does not depend on the length of the vector (43_circular_mean R200). -/
theorem meanDeci_scale {k : ℤ} (hk : 0 < k) (S C : ℤ) : meanDeci (k * S) (k * C) = meanDeci S C := by
  by_cases h : S = 0 ∧ C = 0
  · simp [h.1, h.2]
  · have hθ := hasAngle_arg h
    rw [← Int.natCast_inj, meanDeci_eq_roundedDeci (hθ.scale hk), meanDeci_eq_roundedDeci hθ]

theorem hasAngle_quarterTurn : HasAngle 0 1 (Real.pi / 2) :=
  ⟨by positivity, by linarith [Real.pi_pos], 1, one_pos, by simp, by simp⟩

theorem hasAngle_threeQuarterTurn : HasAngle 0 (-1) (3 * Real.pi / 2) := by
  have hangle : 3 * Real.pi / 2 = Real.pi + Real.pi / 2 := by ring
  exact ⟨by positivity, by linarith [Real.pi_pos], 1, one_pos, by simp [hangle, Real.cos_add],
    by simp [hangle, Real.sin_add]⟩

theorem floor_le_of_angle_le {θ : ℝ} {n : ℤ} (h : θ ≤ n * Real.pi / 1800) : ⌊θ * 1800 / Real.pi + 1 / 2⌋ ≤ n := by
  have hdeci : θ * 1800 / Real.pi ≤ n := (div_le_iff₀ Real.pi_pos).2 (by linarith)
  exact Int.lt_add_one_iff.1 (Int.floor_lt.2 (by push_cast; linarith))

theorem le_floor_of_le_angle {θ : ℝ} {n : ℤ} (h : n * Real.pi / 1800 ≤ θ) : n ≤ ⌊θ * 1800 / Real.pi + 1 / 2⌋ := by
  have hdeci : n ≤ θ * 1800 / Real.pi := (le_div_iff₀ Real.pi_pos).2 (by linarith)
  exact Int.le_floor.2 (by linarith)

/-- The mean is the rounded angle, except that 3600 becomes 0. -/
theorem meanDeci_eq_floor_or {c s : ℤ} {θ : ℝ} (hθ : HasAngle c s θ) :
    (meanDeci s c : ℤ) = ⌊θ * 1800 / Real.pi + 1 / 2⌋ ∨
      (meanDeci s c = 0 ∧ ⌊θ * 1800 / Real.pi + 1 / 2⌋ = 3600) := by
  have hmean := meanDeci_eq_roundedDeci hθ
  rw [roundedDeci] at hmean
  split_ifs at hmean with hfull
  · exact .inr ⟨by omega, hfull⟩
  · exact .inl hmean

/-- The mean of the unit vectors on the axes and of the diagonals of the unit square. -/
theorem meanDeci_unitSquare :
    meanDeci 0 1 = 0 ∧ meanDeci 1 0 = 900 ∧ meanDeci 0 (-1) = 1800 ∧ meanDeci (-1) 0 = 2700 ∧
    meanDeci 1 1 = 450 ∧ meanDeci 1 (-1) = 1350 ∧ meanDeci (-1) (-1) = 2250 ∧ meanDeci (-1) 1 = 3150 := by
  decide +kernel

/-- Settles O52: the signs of a vector order it against the axes at 900 and 2700 decidegrees; the axes and the diagonals
are those of the unit square, scaled. -/
theorem meanOnAxesAndDiagonals : Obligations.MeanOnAxesAndDiagonals := by
  refine ⟨fun S C => ?_, fun k hk => ?_⟩
  · by_cases hzero : S = 0 ∧ C = 0
    · omega
    obtain ⟨θ, hθ⟩ : ∃ θ, HasAngle C S θ := ⟨_, hasAngle_arg hzero⟩
    have hmean := meanDeci_eq_floor_or hθ
    refine ⟨fun hS hC => ?_, fun hC => ?_, fun hS hC => ?_⟩
    · have hbefore := (hθ.before_iff hasAngle_quarterTurn).1 (by simp [angleBefore, firstHalf, hS, hC])
      have hle := floor_le_of_angle_le (θ := θ) (n := 900) (by push_cast; linarith)
      omega
    · have hafter := (hasAngle_quarterTurn.before_iff hθ).1 (by simp [angleBefore, firstHalf, hC])
      have hbefore := (hθ.before_iff hasAngle_threeQuarterTurn).1
        (by simp [angleBefore, firstHalf, hC, hC.not_gt, le_or_gt S 0])
      have hge := le_floor_of_le_angle (θ := θ) (n := 900) (by push_cast; linarith)
      have hle := floor_le_of_angle_le (θ := θ) (n := 2700) (by push_cast; linarith)
      omega
    · have hafter := (hasAngle_threeQuarterTurn.before_iff hθ).1
        (by simp [angleBefore, firstHalf, hS.not_gt, hS.ne, hC])
      have hge := le_floor_of_le_angle (θ := θ) (n := 2700) (by push_cast; linarith)
      omega
  · have hsquare := meanDeci_unitSquare
    simp only [← meanDeci_scale hk 0 1, ← meanDeci_scale hk 1 0, ← meanDeci_scale hk 0 (-1), ← meanDeci_scale hk (-1) 0,
      ← meanDeci_scale hk 1 1, ← meanDeci_scale hk 1 (-1), ← meanDeci_scale hk (-1) (-1),
      ← meanDeci_scale hk (-1) 1, mul_zero, mul_one, mul_neg_one] at hsquare
    obtain ⟨h0, h900, h1800, h2700, h450, h1350, h2250, h3150⟩ := hsquare
    exact ⟨h0, h900, h1800, h2700, h450, h1350, h2250, h3150, meanDeci_scale hk⟩

end Sys2Proof.Machine
end

section
/-! PROOFS. CMEAN (43_circular_mean R193 to R199): the three commands of an idle unit, the fields of CMEAN_OUT,
and a CMEAN_COMPUTE from its accept to the end of its countdown. -/

namespace Sys2Proof.Machine

/-! ### CMEAN_CLEAR -/

/-- Settles O29: an idle unit takes the command. -/
theorem cmeanClearWhenIdle : Obligations.CmeanClearWhenIdle := by
  intro s hidle
  show execCmeanClear s = _
  rw [execCmeanClear, if_neg (by simp [hidle])]
  dsimp only
  rw [hidle]

/-! ### CMEAN_ADD -/

/-- "The sums never wrap" (10_state R50): a sum of fewer than 65535 terms, each of magnitude at most 16384, has room
for one more. -/
theorem toInt_add_term {x : Word} {z : Int} {m : Nat} (hx : x.toInt.natAbs ≤ 16384 * m) (hz : z.natAbs ≤ 16384)
    (hm : m < 65535) : (x + BitVec.ofInt 32 z).toInt = x.toInt + z := by
  rw [BitVec.toInt_add, BitVec.toInt_ofInt, Int.add_bmod_bmod, Int.bmod_eq_of_le] <;> omega

/-- R195's 0 taken as 3600 is the same entry of the ROM. -/
theorem cmeanAccumulate_eq {a : Nat} (ha : a ≤ 3599) (m : Cmean) :
    cmeanAccumulate a m =
      ⟨m.cnt, m.n + 1, m.ssum + BitVec.ofInt 32 (sinq a), m.csum + BitVec.ofInt 32 (cosq a), false, false, m.out⟩ := by
  have hangle : (if a = 0 then 3600 else a) % 3600 = a := by split_ifs <;> omega
  rw [cmeanAccumulate, hangle]

theorem execCmeanAdd_of_idle {s : State} (a : Nat) (h : s.cmean.cnt = 0) :
    exec (.cmeanAdd a) s = .next
      (if a > 3599 then setCmeanRange s else if s.cmean.n = 0xFFFF then setCmeanOvf s
        else { s with cmean := cmeanAccumulate a s.cmean }) := by
  show execCmeanAdd a s = _
  rw [execCmeanAdd, if_neg (by simp [h])]

/-- Settles O30: the two drops, and a sum that a legal CMEAN has room for. -/
theorem cmeanAddWhenIdle : Obligations.CmeanAddWhenIdle := by
  intro s a hidle
  rw [execCmeanAdd_of_idle a hidle]
  refine ⟨fun ha => by rw [if_pos ha, setCmeanRange], fun ha hfull => ?_, fun ha hroom hlegal => ?_⟩
  · rw [if_neg ha.not_gt, if_pos hfull, setCmeanOvf]
  · have hlt : s.cmean.n.toNat < 65535 := by
      have : s.cmean.n.toNat ≠ 65535 := fun h => hroom (BitVec.eq_of_toNat_eq h)
      omega
    refine ⟨s.cmean.ssum + BitVec.ofInt 32 (sinq a), s.cmean.csum + BitVec.ofInt 32 (cosq a), ?_,
      toInt_add_term hlegal.ssum_bound (sinq_natAbs_le a) hlt,
      toInt_add_term hlegal.csum_bound (cosq_natAbs_le a) hlt, ?_⟩
    · rw [if_neg ha.not_gt, if_neg hroom, cmeanAccumulate_eq ha, hidle]
    · exact BitVec.toNat_add_of_lt (Nat.lt_of_le_of_lt (Nat.succ_le_of_lt hlt) (by decide))

/-! ### CMEAN_OUT -/

/-- The two fields of CMEAN_OUT do not overlap (10_state R51). -/
theorem cmeanOutWord_toNat {r : Nat} (hr : r < 3600) : (cmeanOutWord r).toNat = 2 ^ 16 * (sector r).code + r := by
  have hcode := sector_code_lt (sector r)
  rw [cmeanOutWord, BitVec.toNat_ofNat]
  omega

theorem cmeanOutWord_fields {r : Nat} (hr : r < 3600) :
    ((cmeanOutWord r).extractLsb' 0 12).toNat = r ∧
    (cmeanOutWord r).extractLsb' 12 4 = 0 ∧
    ((cmeanOutWord r).extractLsb' 16 2).toNat = (sector r).code ∧
    (cmeanOutWord r).extractLsb' 18 14 = 0 := by
  have hcode := sector_code_lt (sector r)
  simp only [← BitVec.toNat_inj, extractLsb'_toNat_eq_div_mod, cmeanOutWord_toNat hr, BitVec.ofNat_eq_ofNat,
    BitVec.toNat_ofNat, Nat.reducePow]
  generalize (sector r).code = code at *
  refine ⟨?_, ?_, ?_, ?_⟩ <;> omega

/-! ### CMEAN_COMPUTE -/

/-- `cmean_complete` on the sums of a unit, as one equation over the sums' words. -/
theorem cmeanComplete_eq (s c : Word) (m : Cmean) :
    cmeanComplete s.toInt c.toInt m =
      if s = 0 ∧ c = 0 then { m with fault := true, valid := false, out := 0 }
      else { m with out := cmeanOutWord (meanDeci s.toInt c.toInt), fault := false, valid := true } := by
  rw [cmeanComplete]
  exact if_congr (and_congr (toInt_eq_zero_iff s) (toInt_eq_zero_iff c)) rfl rfl

theorem execCmeanCompute_of_idle {s : State} (h : s.cmean.cnt = 0) :
    exec .cmeanCompute s = .next
      (if s.build.cmeanLat = 0 then
        { s with
          cmean := cmeanComplete s.cmean.ssum.toInt s.cmean.csum.toInt { s.cmean with valid := false, fault := false }
          irqStatus := s.irqStatus ||| irqMask .cmeanDone }
      else { s with cmean := { s.cmean with valid := false, fault := false, cnt := s.build.cmeanLat } }) := by
  show execCmeanCompute s = _
  rw [execCmeanCompute, if_neg (by simp [h]), irqWith_true]

/-- Settles O31: the fields of a sum whose parts do not overlap, and the command at either latency. -/
theorem cmeanComputeWhenIdle : Obligations.CmeanComputeWhenIdle := by
  refine ⟨fun r hr => cmeanOutWord_fields hr, fun s hidle => ?_⟩
  rw [execCmeanCompute_of_idle hidle, cmeanComplete_eq, hidle]
  rfl

/-! ### The countdown -/

theorem cmeanUpdate_of_ne_one {m : Cmean} (h : m.cnt ≠ 1) : cmeanUpdate m = { m with cnt := m.cnt - 1 } := by
  simp [cmeanUpdate, cmeanCompletes, h]

theorem cmeanUpdate_of_one {m : Cmean} (h : m.cnt = 1) :
    cmeanUpdate m = cmeanComplete m.ssum.toInt m.csum.toInt { m with cnt := 0 } := by
  simp [cmeanUpdate, cmeanCompletes, h]

/-- A busy CMEAN counts down in a cycle without reset, whatever the host does (44_control R223). -/
theorem step_cmean_of_busy {s t : State} (hrst : s.nextInput.rst = false) (h : step s = .next t)
    (hbusy : s.cmean.cnt ≠ 0) : t.cmean = cmeanUpdate s.cmean := by
  rcases step_cases h with ⟨hr, -⟩ | ⟨-, u, -, rfl⟩
  · simp [hrst] at hr
  · rw [merge_cmean, cmeanAfter, if_pos ((cmeanBusy_iff s).2 hbusy)]

/-- The last cycle of the countdown sets CMEAN_DONE, against a clear too (10_state R38, 60_exceptions R232). -/
theorem step_cmeanDone {s t : State} (hrst : s.nextInput.rst = false) (h : step s = .next t) (hend : s.cmean.cnt = 1) :
    t.irqStatus.getLsbD 2 = true := by
  rcases step_cases h with ⟨hr, -⟩ | ⟨-, u, -, rfl⟩
  · simp [hrst] at hr
  · simp [merge_irqStatus, irqAfter, irqWith_getLsbD, cmeanBusy, cmeanCompletes, hend, irqMask]

/-- Short of its end the countdown is all that changes. -/
theorem run_cmean_of_lt {k : Nat} {s t : State} (hr : s.NoReset) (hk : k < s.cmean.cnt)
    (h : Sys2Proof.core.run k s = .next t) : t.cmean = { s.cmean with cnt := s.cmean.cnt - k } := by
  induction k generalizing t with
  | zero =>
    cases h
    rfl
  | succ k ih =>
    obtain ⟨u, hu, hut⟩ := run_succ_last.1 h
    have hcmean := ih (by omega) hu
    have hrst := nextInput_rst_of_noReset (run_keeps State.NoReset noReset_step k hr hu)
    have hcnt : u.cmean.cnt = s.cmean.cnt - k := by rw [hcmean]
    rw [step_cmean_of_busy hrst hut (by omega), cmeanUpdate_of_ne_one (by omega), hcmean]
    rfl

/-- Settles O48: all cycles but the last count down, and the last completes on the sums of the accept. -/
theorem cmeanCompletesAfterItsLatency : Obligations.CmeanCompletesAfterItsLatency := by
  intro k s t hr hbusy h
  refine ⟨fun hk => run_cmean_of_lt hr hk h, fun hk => ?_⟩
  obtain ⟨m, rfl⟩ := Nat.exists_eq_succ_of_ne_zero (hk ▸ hbusy)
  obtain ⟨u, hu, hut⟩ := run_succ_last.1 h
  have hcmean := run_cmean_of_lt hr (by omega) hu
  have hrst := nextInput_rst_of_noReset (run_keeps State.NoReset noReset_step m hr hu)
  have hend : u.cmean.cnt = 1 := by
    rw [hcmean]
    dsimp only
    omega
  refine ⟨?_, step_cmeanDone hrst hut hend⟩
  rw [step_cmean_of_busy hrst hut (by omega), cmeanUpdate_of_one hend, cmeanComplete_eq, hcmean]

end Sys2Proof.Machine
end

section
/-! PROOFS. The seven commands over a cycle (44_control R220 to R223): a write to CMD runs the command its word decodes to,
NOP and an illegal command, the command of a busy unit, and the frame of every command. -/

namespace Sys2Proof.Machine

/-! ### A write to CMD -/

/-- A write to CMD runs the command of its word (44_control R220). -/
theorem hostEffect_write_command {off : Byte} {w : Word} {i : Instr} (s : State) (hoff : off.toNat / 4 = 1)
    (hdec : decode w = .command i) : hostEffect (.write off w) s = exec i s := by
  rw [hostEffect_write_cmd hoff, issue, hdec]

/-- A write to CMD of a word that is no command is the reserved one's (44_control R222). -/
theorem hostEffect_write_reserved {off : Byte} {w : Word} (s : State) (hoff : off.toNat / 4 = 1)
    (hdec : ∀ i, decode w ≠ .command i) : hostEffect (.write off w) s = .next (setBadcmd s) := by
  rw [hostEffect_write_cmd hoff, issue]
  cases h : decode w with
  | command i => exact absurd h (hdec i)
  | reserved o => rfl

theorem decode_ne_command_of_opcode {w : Word}
    (h : w.extractLsb' 0 8 ∉ ([0x00, 0x01, 0x10, 0x20, 0x21, 0x22, 0x30] : List Byte)) (i : Instr) :
    decode w ≠ .command i := fun hdec =>
  h ((everyWordIsACommandOrReserved w).1 ⟨i, hdec, (decode_eq_command_iff.1 hdec).2.wellFormed⟩)

/-- Settles O24: OPC 0 is the opcode of NOP, which has no operand. -/
theorem nopChangesNothing : Obligations.NopChangesNothing :=
  ⟨fun _ => rfl, fun s _ hw =>
    hostEffect_write_command s rfl ((decode_eq_command_iff_mask (i := .nop)).2 ⟨hw, trivial⟩)⟩

/-- Settles O25: a word with no command's opcode decodes to none, and a PC_TAKE of no line fails its own check. -/
theorem illegalCommandOnlySetsBadcmd : Obligations.IllegalCommandOnlySetsBadcmd := fun s =>
  ⟨fun _ hw => hostEffect_write_reserved s rfl (decode_ne_command_of_opcode hw),
    fun _ hn => congrArg Host.Outcome.next (if_pos hn)⟩

/-! ### A command of a busy unit -/

/-- OW_READ of a busy OW (44_control R223). -/
theorem execOwRead_of_busy {s : State} (h : s.ow.phase ≠ .idle) : exec .owRead s = .next (setCollide s) :=
  congrArg Host.Outcome.next (if_pos ((owBusy_iff s).2 h))

theorem execVaneResolve_of_busy {s : State} (c : Nat) (h : s.vane.cnt ≠ 0) :
    exec (.vaneResolve c) s = .next (setCollide s) :=
  congrArg Host.Outcome.next (if_pos ((vaneBusy_iff s).2 h))

theorem execCmeanClear_of_busy {s : State} (h : s.cmean.cnt ≠ 0) : exec .cmeanClear s = .next (setCollide s) :=
  congrArg Host.Outcome.next (if_pos ((cmeanBusy_iff s).2 h))

theorem execCmeanAdd_of_busy {s : State} (a : Nat) (h : s.cmean.cnt ≠ 0) :
    exec (.cmeanAdd a) s = .next (setCollide s) :=
  congrArg Host.Outcome.next (if_pos ((cmeanBusy_iff s).2 h))

theorem execCmeanCompute_of_busy {s : State} (h : s.cmean.cnt ≠ 0) : exec .cmeanCompute s = .next (setCollide s) :=
  congrArg Host.Outcome.next (if_pos ((cmeanBusy_iff s).2 h))

/-- No unit's update of the cycle reads a sticky bit, so a dropped command reaches none of them. -/
theorem merge_setCollide (inp : Input) (s : State) : merge inp s (setCollide s) = setCollide (merge inp s s) := by
  have how : owAfter inp s (setCollide s) = owAfter inp s s := by rw [owAfter, owAfter, setCollide_ow]
  have hvane : vaneAfter s (setCollide s) = vaneAfter s s := by rw [vaneAfter, vaneAfter, setCollide_vane]
  have hcmean : cmeanAfter s (setCollide s) = cmeanAfter s s := by rw [cmeanAfter, cmeanAfter, setCollide_cmean]
  rw [merge, merge, irqAfter, irqAfter, how, hvane, hcmean]
  rfl

/-- PC is never busy, so its one report is BADCMD (44_control R223). -/
theorem execPcTake_collide {s t : State} {n : Nat} (h : exec (.pcTake n) s = .next t) :
    t.sticky.collide = s.sticky.collide := by
  rw [exec_sticky h]
  exact Bool.or_false _

/-- Settles O26: each of the five commands finds its unit busy and only sets COLLIDE. -/
theorem busyUnitDropsTheCommand : Obligations.BusyUnitDropsTheCommand := by
  refine ⟨fun s n => ⟨_, rfl, execPcTake_collide rfl⟩, fun s i hbusy => ⟨?_, fun inp => merge_setCollide inp s⟩⟩
  rcases hbusy with ⟨rfl, h⟩ | ⟨⟨c, rfl⟩, h⟩ | ⟨rfl | ⟨a, rfl⟩ | rfl, h⟩
  · exact execOwRead_of_busy h
  · exact execVaneResolve_of_busy c h
  · exact execCmeanClear_of_busy h
  · exact execCmeanAdd_of_busy a h
  · exact execCmeanCompute_of_busy h

/-! ### The frame of a command -/

section
variable {i : Instr} {s t : State}

/-- No command reaches the build, the cycle's own bookkeeping, the timebase or the configuration. -/
theorem exec_config (h : exec i s = .next t) :
    t.build = s.build ∧ t.inputs = s.inputs ∧ t.cycle = s.cycle ∧ t.out = s.out ∧ t.presc = s.presc ∧
      t.owSync = s.owSync ∧ t.irqEn = s.irqEn ∧ t.owCfg = s.owCfg ∧ t.vaneRref = s.vaneRref ∧ t.pcCtrl = s.pcCtrl := by
  cases exec_effect h <;> exact ⟨rfl, rfl, rfl, rfl, rfl, rfl, rfl, rfl, rfl, rfl⟩

theorem exec_irqStatus_of_ne (hvane : ∀ c, i ≠ .vaneResolve c) (hcompute : i ≠ .cmeanCompute)
    (h : exec i s = .next t) : t.irqStatus = s.irqStatus := by
  cases exec_effect h
  case vaneAtOnce c _ _ => exact absurd rfl (hvane c)
  case cmeanAtOnce => exact absurd rfl hcompute
  all_goals rfl

/-- A raised IRQ_STATUS bit stays raised, whatever completes. -/
theorem irqWith_keeps {done : Bool} {src : IrqSource} {v : BitVec 3} {k : Nat} (h : v.getLsbD k = true) :
    (irqWith done src v).getLsbD k = true := by
  rw [irqWith_getLsbD, h, Bool.true_or]

theorem exec_irqStatus_keeps (h : exec i s = .next t) {k : Nat} (hk : s.irqStatus.getLsbD k = true) :
    t.irqStatus.getLsbD k = true := by
  cases exec_effect h
  case vaneAtOnce => exact irqWith_keeps hk
  case cmeanAtOnce => exact irqWith_keeps hk
  all_goals exact hk

/-- PC_TAKE of line `n` leaves every other line as it is (41_pulse_counter R140). -/
theorem execPcTake_lines {n : Nat} (h : exec (.pcTake n) s = .next t) :
    t.lines.length = s.lines.length ∧ ∀ m, m ≠ n → t.lines[m]? = s.lines[m]? := by
  cases exec_effect h
  case report => exact ⟨rfl, fun _ _ => rfl⟩
  case pcTake => exact ⟨List.length_set, fun m hm => List.getElem?_set_ne hm.symm⟩

end

/-- Settles O33, field by field. -/
theorem commandFrames : Obligations.CommandFrames := by
  refine fun s t i h => ⟨exec_config h, fun how => exec_ow_of_ne how h, fun hvane => exec_vane_of_ne hvane h,
    fun hclear hadd hcompute => exec_cmean_of_ne hclear hadd hcompute h,
    fun hvane hcompute => exec_irqStatus_of_ne hvane hcompute h, fun _ hk => exec_irqStatus_keeps h hk,
    fun htake => exec_lines_of_ne htake h, ?_, ?_⟩
  · rintro n rfl
    exact execPcTake_lines h
  · rintro rfl
    cases h
    rfl

/-! ### The merge of a cycle -/

theorem step_eq_runCycle {s : State} (hrst : s.nextInput.rst = false) : step s = runCycle s.nextInput s := by
  rw [step, if_neg (by simp [hrst])]

theorem merge_vane_of_idle (inp : Input) {s t : State} (h : s.vane.cnt = 0) : (merge inp s t).vane = t.vane := by
  rw [merge_vane, vaneAfter, if_neg (by simp [h])]

theorem merge_cmean_of_idle (inp : Input) {s t : State} (h : s.cmean.cnt = 0) : (merge inp s t).cmean = t.cmean := by
  rw [merge_cmean, cmeanAfter, if_neg (by simp [h])]

/-- The units only raise IRQ_STATUS bits (10_state R38). -/
theorem merge_irqStatus_keeps (inp : Input) {s t : State} {k : Nat} (h : t.irqStatus.getLsbD k = true) :
    (merge inp s t).irqStatus.getLsbD k = true := by
  rw [merge_irqStatus, irqAfter]
  exact irqWith_keeps (irqWith_keeps (irqWith_keeps h))

/-- Settles O5: the write's effect is the decoded command's, which the cycle merges with the updates of the units. -/
theorem stepRunsTheDecodedCommand : Obligations.StepRunsTheDecodedCommand := by
  refine ⟨fun s off w i hrst htr hoff hdec => ?_, fun s t hrst h => step_of_hostEffect hrst h, fun inp s t => ?_⟩
  · have heffect : hostEffect s.nextInput.transaction s = exec i s :=
      (congrArg (hostEffect · s) htr).trans (hostEffect_write_command s hoff hdec)
    obtain ⟨-, hoperand⟩ := decode_eq_command_iff.1 hdec
    refine ⟨hoperand.wellFormed, fun t h => step_of_hostEffect hrst (heffect.trans h), fun f h => ?_, fun r h => ?_⟩
    · rw [step_eq_runCycle hrst, runCycle, heffect, h]
    · rw [step_eq_runCycle hrst, runCycle, heffect, h]
  · exact ⟨fun h => merge_ow_of_idle inp h, fun h => merge_vane_of_idle inp h, fun h => merge_cmean_of_idle inp h,
      rfl, rfl, rfl, rfl, rfl, rfl, fun _ h => merge_irqStatus_keeps inp h⟩

end Sys2Proof.Machine
end

section
/-! PROOFS. The register map field by field (44_control R224, R225): what each register reads, and what a write to each
writable register sets. -/

namespace Sys2Proof.Machine

/-! ### Reads -/

theorem idWord_toNat {b : Build} (hb : b.nlines ≤ 8) : (idWord b).toNat = 0x57440001 + 256 * b.nlines := by
  rw [idWord_eq hb, BitVec.toNat_ofNat]
  omega

/-- The fields of OW_CFG do not overlap (10_state R35). -/
theorem owCfgWord_toNat (c : OwCfg) :
    (owCfgWord c).toNat =
      c.thresh.toNat + 2 ^ 8 * c.startLowMs.toNat + 2 ^ 16 * c.startHigh.toNat + 2 ^ 24 * c.maxWin.toNat := by
  rw [owCfgWord, BitVec.toNat_ofNat]
  omega

/-- A frame byte under its index in the accumulator. -/
theorem acc_getD (o : Ow) {k : Nat} (h : k < 5) : o.acc[k]?.getD 0 = o.acc[k] := by
  rw [Vector.getElem?_eq_getElem h, Option.getD_some]

/-- OW_RAW0 holds frame bytes 0 to 3 (10_state R36). -/
theorem owRaw0Word_toNat (o : Ow) :
    (owRaw0Word o).toNat =
      o.acc[0].toNat + 2 ^ 8 * o.acc[1].toNat + 2 ^ 16 * o.acc[2].toNat + 2 ^ 24 * o.acc[3].toNat := by
  rw [owRaw0Word, acc_getD o (by omega), acc_getD o (by omega), acc_getD o (by omega), acc_getD o (by omega),
    BitVec.toNat_ofNat]
  omega

/-- OW_RAW1 holds frame byte 4 and the two counts (10_state R37). -/
theorem owRaw1Word_toNat (o : Ow) :
    (owRaw1Word o).toNat = o.acc[4].toNat + 2 ^ 8 * o.nbits.toNat + 2 ^ 16 * o.win.toNat := by
  rw [owRaw1Word, acc_getD o (by omega), BitVec.toNat_ofNat]
  omega

/-- OW_RESULT holds HUM and TEMP (10_state R39). -/
theorem owResult_toNat (s : State) :
    (regRead s .owResult).toNat = s.ow.hum.toNat + 2 ^ 16 * s.ow.temp.toNat := by
  rw [regRead, BitVec.toNat_ofNat]
  omega

theorem pcCtrlWord_toNat (c : PcCtrl) :
    (pcCtrlWord c).toNat = c.en.toNat + 2 ^ 8 * c.edgeFall.toNat + 2 ^ 16 * c.dbMs.toNat := by
  rw [pcCtrlWord, BitVec.toNat_ofNat]
  omega

theorem regOfIndex_pcCount {b : Build} {n : Nat} (hn : n < b.nlines) : regOfIndex b (20 + n) = some (.pcCount n) := by
  rw [regOfIndex_of_ge b (by omega), if_pos (by omega), Nat.add_sub_cancel_left]

theorem regOfIndex_pcTaken {b : Build} (hb : b.nlines ≤ 8) {n : Nat} (hn : n < b.nlines) :
    regOfIndex b (28 + n) = some (.pcTaken n) := by
  rw [regOfIndex_of_ge b (by omega), if_neg (by omega), if_pos (by omega), Nat.add_sub_cancel_left]

/-- Element `n` of a register array is read at the array's first offset plus `4 * n` (10_state R26). -/
theorem busRead_element {s : State} {r n : Nat} {reg : Reg} (h : r + n < 64)
    (hreg : regOfIndex s.build (r + n) = some reg) : busRead s (BitVec.ofNat 8 (4 * r + 4 * n)) = regRead s reg := by
  rw [← Nat.mul_add]
  exact busRead_of_some ((regOf_eq (toNat_ofNat_four_mul h)).trans hreg)

/-- PC_COUNT and PC_TAKEN of a line (10_state R47, R48). -/
theorem busRead_line {s : State} (hb : s.build.nlines ≤ 8) {n : Nat} {l : Line} (hn : n < s.build.nlines)
    (hl : s.lines[n]? = some l) :
    busRead s (BitVec.ofNat 8 (0x50 + 4 * n)) = l.count ∧ busRead s (BitVec.ofNat 8 (0x70 + 4 * n)) = l.taken := by
  rw [← line_of_getElem? hl]
  exact ⟨busRead_element (r := 20) (by omega) (regOfIndex_pcCount hn),
    busRead_element (r := 28) (by omega) (regOfIndex_pcTaken hb hn)⟩

/-- The vane ROM as a host reads it (10_state R53). -/
theorem busRead_vaneRom {s : State} (hb : s.build.nlines ≤ 8) {k : Nat} (hk : k < 16) :
    busRead s (BitVec.ofNat 8 (0xC0 + 4 * k)) = BitVec.setWidth 32 s.build.vaneR[k] := by
  rw [busRead_element (r := 48) (by omega) (regOfIndex_vaneRom hb hk), regRead, Vector.getElem?_eq_getElem hk,
    Option.getD_some]

/-- Settles O17: each offset names its register, whose word is the sum of fields that do not overlap. -/
theorem registerReadsShowTheirFields : Obligations.RegisterReadsShowTheirFields := by
  intro s hb
  obtain ⟨-, -, ⟨-, hlines⟩, -⟩ := (build_wellFormed_iff _).1 hb
  exact ⟨idWord_toNat hlines, rfl, BitVec.toNat_setWidth_of_le (by omega), BitVec.toNat_setWidth_of_le (by omega),
    owCfgWord_toNat s.owCfg, owRaw0Word_toNat s.ow, owRaw1Word_toNat s.ow, owResult_toNat s,
    BitVec.toNat_setWidth_of_le (by omega), rfl, rfl, BitVec.toNat_setWidth_of_le (by omega), rfl, rfl, rfl,
    pcCtrlWord_toNat s.pcCtrl, fun n l hn hl => busRead_line hlines hn hl, fun k hk =>
      (congrArg BitVec.toNat (busRead_vaneRom hlines hk)).trans (BitVec.toNat_setWidth_of_le (by omega))⟩

/-! ### Writes -/

/-- EN and EDGE_FALL after a write: a byte of the word, on the lines that exist (44_control R225). -/
theorem extractLsb'_and_lineMask_getLsbD {b : Build} (hb : b.nlines ≤ 8) (v : Word) (start n : Nat) :
    (v.extractLsb' start 8 &&& lineMask b).getLsbD n = (decide (n < b.nlines) && v.getLsbD (start + n)) := by
  rw [BitVec.getLsbD_and, lineMask_getLsbD hb, BitVec.getLsbD_extractLsb']
  by_cases hn : n < b.nlines
  · simp [hn, show n < 8 by omega]
  · simp [hn]

/-- IRQ_STATUS after a write: cleared where the word has a 1 (10_state R38). -/
theorem and_not_extractLsb'_getLsbD (x : BitVec 3) (v : Word) (k : Nat) :
    (x &&& ~~~(v.extractLsb' 0 3)).getLsbD k = (x.getLsbD k && !v.getLsbD k) := by
  rw [BitVec.getLsbD_and, BitVec.getLsbD_not, BitVec.getLsbD_extractLsb', Nat.zero_add]
  by_cases hk : k < 3
  · simp [hk]
  · simp [BitVec.getLsbD_of_ge x k (Nat.le_of_not_lt hk)]

/-- Settles O19: each offset names its register, and the write of that register is its one field. -/
theorem registerWritesSetTheirFields : Obligations.RegisterWritesSetTheirFields := by
  intro s v hb
  obtain ⟨-, -, ⟨-, hlines⟩, -⟩ := (build_wellFormed_iff _).1 hb
  refine ⟨hostEffect_write_reg (r := .irqEn) rfl (by simp), hostEffect_write_reg (r := .owCfg) rfl (by simp),
    hostEffect_write_reg (r := .vaneRref) rfl (by simp),
    ⟨_, _, hostEffect_write_reg (r := .pcCtrl) rfl (by simp), fun n => ⟨?_, ?_⟩⟩,
    ⟨_, hostEffect_write_reg (r := .irqStatus) rfl (by simp), fun k => and_not_extractLsb'_getLsbD s.irqStatus v k⟩,
    hostEffect_write_reg (r := .status) rfl (by simp)⟩
  · rw [extractLsb'_and_lineMask_getLsbD hlines, Nat.zero_add]
  · exact extractLsb'_and_lineMask_getLsbD hlines v 8 n

end Sys2Proof.Machine
end

section
/-! PROOFS. The exceptions of a cycle (60_exceptions R230 to R235): every state has a next one, the outcome a command
reports, and the completions that raise IRQ_STATUS. -/

namespace Sys2Proof.Machine

/-! ### Runs go on -/

/-- Settles O6, by induction on the number of cycles. -/
theorem everyRunGoesOnForEver : Obligations.EveryRunGoesOnForEver := by
  intro s k
  induction k generalizing s with
  | zero => exact ⟨s, rfl⟩
  | succ k ih =>
    obtain ⟨t, hstep⟩ := exists_step s
    obtain ⟨u, hrun⟩ := ih t
    exact ⟨u, run_succ.2 ⟨t, hstep, hrun⟩⟩

/-! ### The report of a command -/

/-- The checks of a command exclude each other, so at most one of them reports (60_exceptions R235). -/
theorem reports_cases (s : State) (i : Instr) :
    reports s i = Sticky.reset ∨ reports s i = { Sticky.reset with badcmd := true } ∨
      reports s i = { Sticky.reset with collide := true } ∨ reports s i = { Sticky.reset with cmeanRange := true } ∨
      reports s i = { Sticky.reset with cmeanOvf := true } := by
  cases i with
  | nop => exact .inl rfl
  | owRead => cases h : owBusy s <;> simp [reports, h, Sticky.reset]
  | vaneResolve c => cases h : vaneBusy s <;> simp [reports, h, Sticky.reset]
  | cmeanClear => cases h : cmeanBusy s <;> simp [reports, h, Sticky.reset]
  | cmeanCompute => cases h : cmeanBusy s <;> simp [reports, h, Sticky.reset]
  | pcTake n => by_cases h : s.build.nlines ≤ n <;> simp [reports, h, Sticky.reset]
  | cmeanAdd a =>
    cases hbusy : cmeanBusy s with
    | true => simp [reports, hbusy, Sticky.reset]
    | false =>
      by_cases ha : a ≤ 3599
      · rw [reports]
        cases decide (s.cmean.n = 0xFFFF) <;> simp [hbusy, ha, Sticky.reset]
      · simp [reports, hbusy, ha, Nat.lt_of_not_le ha, Sticky.reset]

/-- Settles O34: the one report of the command is all that is added. -/
theorem commandReportsAtMostOneOutcome : Obligations.CommandReportsAtMostOneOutcome := by
  intro s t i h
  rw [exec_sticky h]
  rcases reports_cases s i with hr | hr | hr | hr | hr <;> simp [hr, Sticky.or, Sticky.reset]

/-! ### The end of a read -/

theorem enterSample_done_iff (o : Ow) : (enterSample o).done = true ↔ (enterSample o).ow.phase = .idle := by
  rw [enterSample]
  split_ifs
  · simp [owFinish_frame]
  · simp

theorem owHighTick_done_iff {o : Ow} (h : o.phase = .high) :
    (owHighTick o).done = true ↔ (owHighTick o).ow.phase = .idle := by
  rw [owHighTick]
  split_ifs
  · exact enterSample_done_iff o
  · simp [h]

theorem owSampleTick_done_iff (level : Bool) {o : Ow} (h : o.phase = .sample) :
    (owSampleTick level o).done = true ↔ (owSampleTick level o).ow.phase = .idle := by
  by_cases hlevel : level = o.last
  · rw [owSampleTick_of_last hlevel]
    split_ifs
    · simp [owFinish_frame]
    · simp [h]
  · rw [owSampleTick_of_ne_last hlevel]
    split_ifs
    · simp [owFinish_frame]
    · simp [nextWindow_phase, h]

theorem owLowTick_phase_ne_idle {o : Ow} (h : o.phase = .low) : (owLowTick o).phase ≠ .idle := by
  rw [owLowTick]
  split_ifs <;> simp [h]

/-- A busy OW runs `finish` exactly when its step leaves it idle (60_exceptions R232). -/
theorem owUpdate_done_iff (tick level : Bool) {o : Ow} (hbusy : o.phase ≠ .idle) :
    (owUpdate tick level o).done = true ↔ (owUpdate tick level o).ow.phase = .idle := by
  rcases owUpdate_cases tick level o with ⟨-, h⟩ | ⟨-, hidle, -⟩ | ⟨-, hlow, h⟩ | ⟨-, hhigh, h⟩ | ⟨-, hsample, h⟩
  · simp [h, hbusy]
  · exact absurd hidle hbusy
  · simp [h, owLowTick_phase_ne_idle hlow]
  · rw [h]
    exact owHighTick_done_iff hhigh
  · rw [h]
    exact owSampleTick_done_iff level hsample

theorem owAfter_done_iff (inp : Input) (s t : State) :
    (owAfter inp s t).done = true ↔ s.ow.phase ≠ .idle ∧ (owAfter inp s t).ow.phase = .idle := by
  by_cases hidle : s.ow.phase = .idle
  · simp [owAfter, hidle]
  · rw [owAfter, if_pos ((owBusy_iff s).2 hidle), owUpdate_done_iff _ _ hidle, and_iff_right hidle]

/-! ### IRQ_STATUS after the host's transaction -/

/-- The IRQ_STATUS bits a command raises: at latency 0 the accept is the completion (60_exceptions R232). -/
def raises (s : State) : Instr → BitVec 3
  | .vaneResolve _ => if s.vane.cnt = 0 ∧ s.build.vaneLat = 0 then irqMask .vaneDone else 0
  | .cmeanCompute => if s.cmean.cnt = 0 ∧ s.build.cmeanLat = 0 then irqMask .cmeanDone else 0
  | .nop | .owRead | .cmeanClear | .cmeanAdd _ | .pcTake _ => 0

theorem exec_irqStatus {i : Instr} {s t : State} (h : exec i s = .next t) :
    t.irqStatus = s.irqStatus ||| raises s i := by
  cases i with
  | vaneResolve c =>
    by_cases hidle : s.vane.cnt = 0
    · rw [execVaneResolve_of_idle c hidle] at h
      cases h
      by_cases hlat : s.build.vaneLat = 0 <;> simp [raises, hidle, hlat]
    · rw [execVaneResolve_of_busy c hidle] at h
      cases h
      simp [raises, hidle]
  | cmeanCompute =>
    by_cases hidle : s.cmean.cnt = 0
    · rw [execCmeanCompute_of_idle hidle] at h
      cases h
      by_cases hlat : s.build.cmeanLat = 0 <;> simp [raises, hidle, hlat]
    · rw [execCmeanCompute_of_busy hidle] at h
      cases h
      simp [raises, hidle]
  | nop | owRead | cmeanClear | cmeanAdd a | pcTake n =>
    rw [exec_irqStatus_of_ne (by simp) (by simp) h, raises]
    exact BitVec.or_zero.symm

/-- The IRQ_STATUS bits a transaction clears: the ones of a word written there (10_state R38). -/
def Transaction.irqClear : Transaction → BitVec 3
  | .idle | .read _ => 0
  | .write off v => if off.toNat / 4 = 4 then v.extractLsb' 0 3 else 0

theorem regWrite_irqStatus {r : Reg} (v : Word) (s : State) (h : r ≠ .irqStatus) :
    (regWrite r v s).irqStatus = s.irqStatus := by
  cases r
  case irqStatus => exact absurd rfl h
  all_goals rfl

@[simp] theorem irqStatus_and_allOnes (v : BitVec 3) : v &&& 7#3 = v := BitVec.and_allOnes

/-- A transaction clears what it writes to IRQ_STATUS and raises what its command completes at once. -/
theorem hostEffect_irqStatus {tr : Transaction} {s t : State} (h : hostEffect tr s = .next t) :
    t.irqStatus = (s.irqStatus &&& ~~~tr.irqClear) ||| raises s tr.command := by
  cases tr with
  | idle => cases h; simp [Transaction.irqClear, Transaction.command, raises]
  | read => cases h; simp [Transaction.irqClear, Transaction.command, raises]
  | write off v =>
    by_cases hcmd : off.toNat / 4 = 1
    · rw [hostEffect_write_cmd hcmd, issue] at h
      rw [Transaction.irqClear, if_neg (by omega), Transaction.command, if_pos hcmd]
      cases hdec : decode v with
      | command i =>
        rw [hdec] at h
        simp [exec_irqStatus h]
      | reserved o =>
        rw [hdec] at h
        cases h
        simp [raises]
    · rw [Transaction.command, if_neg hcmd, Transaction.irqClear]
      by_cases hirq : off.toNat / 4 = 4
      · rw [hostEffect_write_reg (r := .irqStatus) (regOf_eq hirq) (by simp)] at h
        cases h
        simp [regWrite, hirq, raises]
      · rcases hostEffect_cases h with
          rfl | ⟨_, _, r, ⟨⟩, hreg, -, rfl⟩ | ⟨_, _, _, ⟨⟩, hoff, -⟩ | ⟨_, _, _, ⟨⟩, hoff, -⟩
        · simp [hirq, raises]
        · have hr : r ≠ .irqStatus := fun hr => hirq <| by
            have := offset_of_regOfIndex hreg
            simp only [hr, Reg.offset] at this
            omega
          simp [regWrite_irqStatus v s hr, hirq, raises]
        · exact absurd hoff hcmd
        · exact absurd hoff hcmd

/-! ### IRQ_STATUS bit by bit -/

/-- The number of a source's bit in IRQ_STATUS (10_state R34). -/
def IrqSource.bit : IrqSource → Nat
  | .owDone => 0
  | .vaneDone => 1
  | .cmeanDone => 2

theorem irqMask_getLsbD (src : IrqSource) (k : Nat) : (irqMask src).getLsbD k = true ↔ k = src.bit := by
  rcases Nat.lt_or_ge k 3 with hk | hk
  · interval_cases k <;> cases src <;> decide
  · rw [BitVec.getLsbD_of_ge _ _ hk]
    cases src <;> simp [IrqSource.bit] <;> omega

theorem irqWith_getLsbD_iff (done : Bool) (src : IrqSource) (v : BitVec 3) (k : Nat) :
    (irqWith done src v).getLsbD k = true ↔ v.getLsbD k = true ∨ (k = src.bit ∧ done = true) := by
  rw [irqWith_getLsbD, Bool.or_eq_true, Bool.and_eq_true, irqMask_getLsbD, and_comm]

theorem irqClear_getLsbD (tr : Transaction) {k : Nat} (hk : k < 3) :
    tr.irqClear.getLsbD k = true ↔ ∃ off v, tr = .write off v ∧ off.toNat / 4 = 4 ∧ v.getLsbD k = true := by
  cases tr with
  | idle => simp [Transaction.irqClear]
  | read => simp [Transaction.irqClear]
  | write off v => by_cases hoff : off.toNat / 4 = 4 <;> simp [Transaction.irqClear, hoff, hk]

theorem raises_getLsbD (s : State) (i : Instr) (k : Nat) :
    (raises s i).getLsbD k = true ↔
      (k = 1 ∧ s.vane.cnt = 0 ∧ s.build.vaneLat = 0 ∧ ∃ c, i = .vaneResolve c) ∨
      (k = 2 ∧ s.cmean.cnt = 0 ∧ s.build.cmeanLat = 0 ∧ i = .cmeanCompute) := by
  cases i with
  | vaneResolve c => by_cases h : s.vane.cnt = 0 ∧ s.build.vaneLat = 0 <;> simp [raises, h, irqMask_getLsbD, IrqSource.bit]
  | cmeanCompute => by_cases h : s.cmean.cnt = 0 ∧ s.build.cmeanLat = 0 <;> simp [raises, h, irqMask_getLsbD, IrqSource.bit]
  | nop | owRead | cmeanClear | cmeanAdd a | pcTake n => simp [raises]

/-- The next cycle issues a command other than NOP exactly when it is the command of its transaction. -/
theorem issues_iff_command (s : State) {i : Instr} (hi : i ≠ .nop) : s.Issues i ↔ s.nextTransaction.command = i := by
  unfold State.Issues
  cases s.nextTransaction with
  | idle => simp [Transaction.command, hi.symm]
  | read => simp [Transaction.command, hi.symm]
  | write off v =>
    by_cases hoff : off.toNat / 4 = 1
    · cases hdec : decode v <;> simp [Transaction.command, hoff, hdec, hi.symm]
    · simp [Transaction.command, hoff, hi.symm]

/-- What the end of a cycle adds to the bits the host's transaction left: the units whose busy time ends. -/
theorem irqAfter_getLsbD (inp : Input) (s t : State) (k : Nat) :
    (irqAfter inp s t).getLsbD k = true ↔
      t.irqStatus.getLsbD k = true ∨ (k = 0 ∧ s.ow.phase ≠ .idle ∧ (merge inp s t).ow.phase = .idle) ∨
      (k = 1 ∧ s.vane.cnt = 1) ∨ (k = 2 ∧ s.cmean.cnt = 1) := by
  have hvane : (vaneBusy s && vaneCompletes s.vane) = true ↔ s.vane.cnt = 1 := by
    rw [Bool.and_eq_true, vaneBusy_iff, vaneCompletes, decide_eq_true_eq]
    omega
  have hcmean : (cmeanBusy s && cmeanCompletes s.cmean) = true ↔ s.cmean.cnt = 1 := by
    rw [Bool.and_eq_true, cmeanBusy_iff, cmeanCompletes, decide_eq_true_eq]
    omega
  rw [irqAfter, irqWith_getLsbD_iff, irqWith_getLsbD_iff, irqWith_getLsbD_iff, owAfter_done_iff, hvane, hcmean, merge_ow]
  simp only [IrqSource.bit]
  exact iff_of_eq (by ac_rfl)

/-- Settles O21: the host's clear, the completions at latency 0, then the busy times that end. -/
theorem irqStatusSetWinsOverClear : Obligations.IrqStatusSetWinsOverClear := by
  intro s t hrst h k hk
  rcases step_cases h with ⟨hr, -⟩ | ⟨-, u, hu, rfl⟩
  · simp [hrst] at hr
  have hhost : u.irqStatus.getLsbD k = true ↔
      (s.irqStatus.getLsbD k = true ∧
        ¬∃ off v, s.nextTransaction = .write off v ∧ off.toNat / 4 = 4 ∧ v.getLsbD k = true) ∨
      (k = 1 ∧ s.vane.cnt = 0 ∧ s.build.vaneLat = 0 ∧ ∃ c, s.Issues (.vaneResolve c)) ∨
      (k = 2 ∧ s.cmean.cnt = 0 ∧ s.build.cmeanLat = 0 ∧ s.Issues .cmeanCompute) := by
    have hvane (c : Nat) := issues_iff_command s (i := .vaneResolve c) (by simp)
    have hcmean := issues_iff_command s (i := .cmeanCompute) (by simp)
    simp only [hvane, hcmean, ← irqClear_getLsbD _ hk, ← raises_getLsbD]
    rw [hostEffect_irqStatus hu]
    simp [hk, State.nextTransaction]
  rw [merge_irqStatus, irqAfter_getLsbD, hhost]
  simp only [and_or_left]
  exact iff_of_eq (by ac_rfl)

end Sys2Proof.Machine
end

section
/-! PROOFS. The cycle with `rst` high (70_reset R260) and the idle cycle of a quiescent machine (70_reset R268). -/

namespace Sys2Proof.Machine

/-! ### Reset -/

theorem step_of_rst {s : State} (hrst : s.nextInput.rst = true) : step s = .next (afterReset s) := by
  rw [step, if_pos hrst]

/-- Settles O7: the state after a reset cycle is the reset state but for the model's inputs and cycle count. -/
theorem resetCycleLeavesTheResetState : Obligations.ResetCycleLeavesTheResetState := fun _ hrst => step_of_rst hrst

/-! ### Quiescence -/

theorem owAfter_of_idle (inp : Input) {s t : State} (h : s.ow.phase = .idle) : owAfter inp s t = ⟨t.ow, false⟩ := by
  rw [owAfter, if_neg (by simp [h])]

/-- Only a unit that was busy at the start of the cycle raises its bit at the end of it (10_state R38). -/
theorem irqAfter_of_quiescent (inp : Input) {s t : State} (h : s.Quiescent) : irqAfter inp s t = t.irqStatus := by
  obtain ⟨how, hvane, hcmean⟩ := h
  have hv : vaneBusy s = false := by simp [vaneBusy, hvane]
  rw [irqAfter, owAfter_of_idle inp how, hv, (cmeanBusy_eq_false_iff s).2 hcmean]
  rfl

/-- With every unit idle the end of a cycle adds to what the host left only the timebase, the synchroniser and the lines. -/
theorem merge_of_quiescent (inp : Input) {s t : State} (h : s.Quiescent) :
    merge inp s t = { t with
      inputs := s.inputs.tail
      cycle := s.cycle + 1
      out := outputs inp s
      presc := nextPresc s
      owSync := syncShift inp.owIn s.owSync
      lines := linesUpdate s.build s.pcCtrl s.tick inp.pcIn 0 t.lines } := by
  have hirq : irqAfter inp s t = t.irqStatus := irqAfter_of_quiescent inp h
  obtain ⟨how, hvane, hcmean⟩ := h
  have hvaneAfter : vaneAfter s t = t.vane := merge_vane_of_idle inp hvane
  have hcmeanAfter : cmeanAfter s t = t.cmean := merge_cmean_of_idle inp hcmean
  rw [merge, owAfter_of_idle inp how, hvaneAfter, hcmeanAfter, hirq]

/-- An idle cycle is the machine's own updates alone (20_memory R60). -/
theorem step_of_idle {s : State} (hrst : s.nextInput.rst = false) (htr : s.nextTransaction = .idle) :
    step s = .next (merge s.nextInput s s) :=
  step_of_hostEffect hrst (congrArg (hostEffect · s) htr)

/-- Settles O57: the step is the merge of the start state with itself, which leaves every unit as it was. -/
theorem quiescentStateIsStable : Obligations.QuiescentStateIsStable := by
  intro s t hs hrst htr h
  have hmerge : merge s.nextInput s s = t := Host.Outcome.next.inj ((step_of_idle hrst htr).symm.trans h)
  rw [← hmerge, merge_of_quiescent s.nextInput hs]
  exact ⟨hs, rfl⟩

end Sys2Proof.Machine
end
